-- ==== Sys2Proof/Word.lean ====
section
/-!
DEFINITION. The word types of the BLY-6416 (R10: a word of the register map and of the indirect space is
32 bits) and their plainest arithmetic.
-/

namespace Sys2Proof

/-- A word of the register map and the indirect space (R10). -/
abbrev W := BitVec 32

/-- A USB or tally byte. -/
abbrev Byte := BitVec 8

/-- Bits [hi:lo] of a word, as a number (R9). -/
def W.bits (w : W) (hi lo : Nat) : Nat := (w.toNat >>> lo) % 2 ^ (hi + 1 - lo)

/-- Bit k of a word. -/
def W.bit (w : W) (k : Nat) : Bool := w.getLsbD k

/-- A flag as a number. -/
def b2n (b : Bool) : Nat := if b then 1 else 0

/-- A word from fields given as (lowest bit, width, value). -/
def mkW (fs : List (Nat × Nat × Nat)) : W :=
  BitVec.ofNat 32 (fs.foldl (fun a f => a + (f.2.2 % 2 ^ f.2.1) * 2 ^ f.1) 0)

/-- A word of flags, bit k of the list at bit k. -/
def flagsW (bs : List Bool) : Nat := bs.foldr (fun b a => b2n b + 2 * a) 0

/-- Saturating increment at `m`. -/
def satInc (n m : Nat) : Nat := if n < m then n + 1 else m

/-- The four bytes of a word, least significant first (R179). -/
def W.bytes (w : W) : List Byte :=
  [w.extractLsb' 0 8, w.extractLsb' 8 8, w.extractLsb' 16 8, w.extractLsb' 24 8]

/-- A word from four bytes, least significant first. -/
def W.ofBytes (b0 b1 b2 b3 : Byte) : W :=
  BitVec.ofNat 32 (b0.toNat + 2 ^ 8 * b1.toNat + 2 ^ 16 * b2.toNat + 2 ^ 24 * b3.toNat)

end Sys2Proof
end

