-- ==== Sys2Proof/Syntax.lean ====
section
/-!
DEFINITION. The commands of the block: one constructor per row of spec/opcode_table.json, with the operands
that the world outside (or, for a step of the device itself, the physical happening) brings. The operand
types stand first. The table gives no row any bits.
-/

namespace Sys2Proof

/-- The two access paths of the register map (R147, R178). -/
inductive Path where
  | tally | usb
  deriving DecidableEq, Repr

/-- Plot Pp (glossary, R19). -/
abbrev PlotId := Fin 63
/-- Furrow Ff (R17). -/
abbrev FurrowId := Fin 64
/-- Port DPn, as n - 1. -/
abbrev PortId := Fin 16
/-- Hub port n, as n - 1; 16 is the internal port 17 (R256). -/
abbrev HubPortId := Fin 17
/-- Type-C port DPn, as n - 13 (R498). -/
abbrev TcId := Fin 4
/-- Culvert Cn, as n - 1. -/
abbrev CulvId := Fin 3
/-- Sluice number (R302). -/
abbrev SluiceId := Fin 128
/-- Cadence stream (R442). -/
abbrev StreamId := Fin 8

/-- The traffic classes, highest first (R436). -/
inductive TClass where
  | spate | flow | seep
  deriving DecidableEq, Repr

/-- Level of a CC ball (R501). -/
inductive CcLevel where
  | open | ra | rd | over
  deriving DecidableEq, Repr

/-- The monitored rails (R74), in the order of BROWN_RAIL (R141). -/
inductive Rail where
  | core | io | usb | adc
  deriving DecidableEq, Repr

/-- What wakes the device from REST (R119). -/
inductive WakeReason where
  | upstream | hubWake | trip | event | tcs
  deriving DecidableEq, Repr

/-- The two moments of a read of HW_MSG (R159, R160). -/
inductive ReadStage where
  | capture | finish
  deriving DecidableEq, Repr

/-- USB device speeds (R300 word 192). -/
inductive Speed where
  | none | low | full | high
  deriving DecidableEq, Repr

/-- The change bits of a hub port (R263). -/
inductive PortChange where
  | connection | enable | suspend | overCurrent | reset
  deriving DecidableEq, Repr

/-- What a downstream device answered an attempt with (R275, R276). -/
inductive DevAnswer where
  | ack | nak | stall | data (bytes : List Byte)
  deriving DecidableEq, Repr

/-- How a downstream attempt of a split ended (R275): nothing or a corrupted answer, an answer of the
device, or an IN payload that holds a poisoned word (R288). -/
inductive AttemptResult where
  | noAnswer | answered (a : DevAnswer) | poisoned (bytes : List Byte)
  deriving DecidableEq, Repr

/-- The header of a received tandem frame after its TYPE, which is the command's (R405). -/
structure LinkHead where
  flags : Byte
  seq : BitVec 16
  ack : BitVec 16
  len : BitVec 16
  deriving DecidableEq, Repr

/-- The endpoint a ClearTTBuffer names in its wValue (R279): number and direction, IN. -/
structure TtEndpoint where
  num : BitVec 4
  dirIn : Bool
  deriving DecidableEq, Repr

/-- The OUT payload of a start-split, and whether it holds a poisoned word (R288). -/
structure OutData where
  bytes : List Byte
  poison : Bool
  deriving DecidableEq, Repr

/-- How an IN transaction goes: whether the host acknowledges the packet, and whether a word of it in a carved buffer
reads poisoned (R288). -/
structure InRead where
  ack : Bool
  poison : Bool
  deriving DecidableEq, Repr

/-- What a CANCEL request names: its own CULV field and the TAG to cancel (R391). -/
structure CancelName where
  culv : BitVec 2
  tag : Byte
  deriving DecidableEq, Repr

/-- The protection comparators (R483). -/
inductive Comparator where
  | overVoltage | overCurrent | reverse
  deriving DecidableEq, Repr

/-- Where a fault of the fallow furrow is found (R582, R641). -/
inductive FailCause where
  | phase1 | phase2 | phase3 | localStore
  deriving DecidableEq, Repr

/-- One staged write of a work item into the commons (R41): word, data, the poison mark of data that came from
elsewhere, and the commons words the item read that the data rests on (R58). -/
structure CommonsWrite where
  word : BitVec 16
  data : W
  poison : Bool
  srcs : List (BitVec 16)
  deriving DecidableEq, Repr

/-- One data phase of a C1 burst as the master saw it (R357, R358): the read data and whether the parity
of the data lines and C1_PAR was odd. -/
structure C1Phase where
  data : BitVec 12
  parOk : Bool
  deriving DecidableEq, Repr

/-- One received serial character (R368, R370). -/
structure SerChar where
  data : Byte
  ninth : Bool
  framing : Bool
  deriving DecidableEq, Repr

/-- The commands of the block, in the order of spec/opcode_table.json, those without operands last (a constructor with
fields beyond the 245th could not be compiled). -/
inductive Instr where
  /-- At each tick boundary the field controller latches counters, increments TICK_COUNT and runs the overrun, fence, swap, commit and scrub phases of the turnaround window (R38). Operands: the raw codes of ADC slots 0-33 of the ending tick (R471) and the levels of CC1, CC2 of DP13-DP16 (R501). -/
  | tickBoundary (adc : List (BitVec 12)) (cc : List (CcLevel × CcLevel))
  /-- A Spate operation not emitted before the boundary that opens tick N+2 raises a Spate-late event from the plot that held it (R6). Operands: the plot that held the operation and its ledger ID. -/
  | spateLate (p : PlotId) (id : BitVec 14)
  /-- The headgate timestamps a valid SOF, measures its phase error and acts on an out-of-window SOF by stretching the tick or ending a stretch (R26). Operands: capture point in FCLK cycles of the current tick, frame number, microframe. -/
  | sofCapture (cycle : Nat) (frame : BitVec 11) (uf : BitVec 3)
  /-- The sequencer starts the oldest ready item of the slot's class whose worst-case cost fits before the boundary (R41). Operands: the plot and the FCLK cycle of the tick. -/
  | workItemStart (p : PlotId) (cycle : Nat)
  /-- When a work item ends, its staged writes to plot state, ledger, commons and sluices, its TAKEs and its events take effect together (R316). Operands: the commons words the item read and the commons writes it staged. -/
  | workItemEnd (p : PlotId) (cycle : Nat) (reads : List (BitVec 16)) (writes : List CommonsWrite)
  /-- Writing CLR in a plot status word 3 clears PEAK_USED, PEAK_SPATE, OVR_CNT and SPX_CNT together (R64). -/
  | plotStatusClr (path : Path) (p : PlotId)
  /-- Power-on reset releases 1.0-2.0 ms after the last monitored rail crosses its rising threshold, once the reference has run 1,024 cycles (R75). Operands: the level of TESTMODE (R602). -/
  | powerOnRelease (testmode : Bool)
  /-- A monitored rail below its falling threshold for 2 µs or more asserts a device reset and abandons any shutdown under way (R74). Operands: the rail below its falling threshold; whether VDD_CORE or VDD_IO left the limits of R131; whether it came within 1 µs of the last standby write (R105). -/
  | brownout (rail : Rail) (tears : Bool) (recent : Bool)
  /-- The rising edge of RST_N, when later than power-on release, is reset release and starts seeding (R75). Operands: the level of TESTMODE (R602). -/
  | rstNRelease (testmode : Bool)
  /-- 20 ms after VIO_C1 rises through 2.95 V the device measures it and sets the C1 bank to 3.3 V or 5.0 V operation (R68). Operands: VIO_C1 in mV 20 ms after the crossing. -/
  | c1ModeDecision (mv : Nat)
  /-- A tally write of 0x7A11 to TCTL.SRST asserts a soft reset for 10 µs at the end of the frame (R99). Operands: TCTL.SRST of a tally write. -/
  | softReset (key : BitVec 16)
  /-- USB reset signalling upstream resets the hub logic, cancels upstream-opened entries, releases rack-function semaphores and resets the TT presentation and port 17 (R101). Operands: whether the chirp handshake gives high speed (R257). -/
  | upstreamBusReset (hs : Bool)
  /-- A masked write of a BLK_RST bit records a block reset request (R144). -/
  | blkRstWrite (path : Path) (v : W)
  /-- A keyed PWR_STATE write of REQ RUN ends QUIESCE or its entry, wakes from REST, or is recorded during shutdown (R140). Operands: REST_EN of the same write. -/
  | reqRun (path : Path) (restEn : Bool)
  /-- A keyed PWR_STATE write of REQ QUIESCE stops new operations at the next boundary and waits for the ledger to drain (R114). -/
  | reqQuiesce (path : Path) (restEn : Bool)
  /-- A keyed PWR_STATE write of REQ STANDBY starts the controlled shutdown (R124). -/
  | reqStandby (path : Path) (restEn : Bool)
  /-- Resume or reset signalling, a hub wake condition, a protection trip, any Hayward event or a falling TCS_N wakes the device from REST (R119). -/
  | wakeEvent (why : WakeReason)
  /-- NVM_CTL CMD READ copies the word at ADDR into NVM_DATA within 1 µs and sets ECC1 or ECC2 (R211). -/
  | nvmRead (path : Path) (addr : BitVec 14)
  /-- Keyed NVM_CTL CMD WRITE checks that the word is erased and programs NVM_DATA into it in one write pulse (R211). -/
  | nvmWrite (path : Path) (addr : BitVec 14)
  /-- Keyed NVM_CTL CMD ERASE erases the sector that holds ADDR (R211). -/
  | nvmErase (path : Path) (addr : BitVec 14)
  /-- The write pulse ends and is verified, BUSY clears and DONE and possibly ERR are set, releasing any reset held for it (R212). Operands: whether the verify passes. -/
  | nvmWriteDone (ok : Bool)
  /-- The sector erase ends within 20 ms and is verified, and BUSY clears and DONE and possibly ERR are set (R212). -/
  | nvmEraseDone (ok : Bool)
  /-- A tally write frame takes effect at the rising edge of TCS_N when well-formed, and its outcome is recorded (R157). Operands: command byte, data, trailer byte and clock count (R149). -/
  | tallyWriteFrame (cmd : Byte) (data : W) (crc : Byte) (clocks : Nat)
  /-- A tally read frame captures the register at the eighth clock, sends it with its trailer and records the outcome (R158). Operands: command byte, turnaround byte and clock count. -/
  | tallyReadFrame (cmd : Byte) (crc : Byte) (clocks : Nat)
  /-- A successful read of HW_MSG returns and removes the oldest Hayward message, holding off a read from the other path (R207). Operands: capture point of the read or its end (R159, R160). -/
  | hwMsgRead (path : Path) (stage : ReadStage)
  /-- A write of IWA sets the window address and starts the read buffer fetching the word there (R170). -/
  | iwaWrite (path : Path) (addr : BitVec 24)
  /-- A read of IWD returns the buffered word at IWA, or NOT_READY or POISON, and steps IWA (R169). -/
  | iwdRead (path : Path)
  /-- A write of IWD posts the word to the one-word write buffer and steps IWA (R172). -/
  | iwdWrite (path : Path) (v : W)
  /-- The window's buffer read completes within its region's bound and IWC.RDY becomes 1 (R170). -/
  | iwdBufferReady (path : Path)
  /-- The posted write buffer drains to its address within its region's bound and WPEND clears (R172). -/
  | iwdWriteDrain (path : Path)
  /-- A write to a direct register without behaviour of its own changes its writable fields under their access codes, with DENIED or LOCKED outcomes (R167). -/
  | registerWrite (path : Path) (idx : BitVec 7) (v : W)
  /-- Vendor request RD_REG reads one direct register over USB (R178). -/
  | rdReg (wValue wIndex wLength : BitVec 16)
  /-- Vendor request WR_REG writes one direct register over USB (R178). -/
  | wrReg (wValue wIndex wLength : BitVec 16) (v : W)
  /-- Vendor request RD_IND loads the USB window's IWA and reads 1-16 words through IWD (R178). -/
  | rdInd (wValue wIndex wLength : BitVec 16)
  /-- Vendor request WR_IND loads the USB window's IWA and writes 1-16 words through IWD (R178). -/
  | wrInd (wValue wIndex wLength : BitVec 16) (ws : List W)
  /-- Any other vendor request to the hub device is answered with STALL (R178). -/
  | unsupportedVendorRequest (bRequest : Byte)
  /-- CFG_CTL.OPEN opens the committed configuration, or waits until every part of the last commit is applied (R230). -/
  | cfgOpen (path : Path)
  /-- Keyed CFG_CTL.COMMIT from the owning path stops the window and sets CHECKING (R232). -/
  | cfgCommit (path : Path)
  /-- After two ticks of shadowing, the updated plot swaps onto the fallow furrow and CFG_EPOCH increments (R241). Operands: whether the two run-state CRCs agree (R580). -/
  | updateSwap (equal : Bool)
  /-- FENCE CMD 1 adds PLOT to the staged fence list (R243). -/
  | fenceAdd (path : Path) (plot : BitVec 6)
  /-- FENCE CMD 2 clears the list and cancels a fence still waiting for an unaccepted commit (R243). -/
  | fenceClear (path : Path)
  /-- FENCE CMD 3 requests the staged fence, or refuses it with a REASON (R243). -/
  | fenceRequest (path : Path)
  /-- At the end of the second shadowing tick the CRCs of the two stores are compared and the swap is made or shadowing repeats (R580). Operands: whether the CRCs of the two stores agree (R580). -/
  | shadowCompare (equal : Bool)
  /-- FALLOW_CTL.FORCE requests a test of FORCE_F, taken at the next boundary or refused (R585). -/
  | forceTest (path : Path) (f : FurrowId)
  /-- At the boundary after a test fault or fallow store error the furrow is marked failed, NO_SPARE set and FURROW_FAIL raised (R593). Operands: where the fault of the fallow furrow was found (R582, R641). -/
  | furrowFail (cause : FailCause)
  /-- A check failure in a carrying furrow's local store rolls back the item under way (R594). -/
  | localStoreError (p : PlotId)
  /-- FALLOW_CTL.MEMTEST in QUIESCE starts the commons memory test at the next boundary, or is refused (R590). -/
  | memtestRequest (path : Path)
  /-- The transparent commons test finishes all parcels, sets MEMTEST_DONE and retires failing parcels (R591). Operands: the failing words, in ascending order. -/
  | memtestDone (bad : List (BitVec 16))
  /-- Writing FALLOW_CTL.HALT or PERIOD stops rotation or changes its period from the next boundary (R213). -/
  | haltWrite (path : Path) (halt : Bool) (period : BitVec 5)
  /-- Instruction SAMPLE/PRELOAD captures and preloads the boundary register (R598). Operands: the levels the capture cells sample. -/
  | samplePreload (levels : BitVec 177)
  /-- Keyed FUSE_CTL CMD ARM from the tally port sets ARMED for 64 ticks (R603). -/
  | fuseArm (path : Path) (key : BitVec 16)
  /-- Keyed FUSE_CTL CMD BLOW while ARMED starts the blow pulse (R603). -/
  | fuseBlow (path : Path) (key : BitVec 16)
  /-- The blow pulse ends and is verified, setting BLOWN or FAIL and closing the factory access when blown (R604). Operands: what the verify senses. -/
  | fuseBlowDone (blown : Bool)
  /-- ClearHubFeature of C_HUB_LOCAL_POWER or C_HUB_OVER_CURRENT is accepted with no effect (R263). -/
  | clearHubFeature (feature : BitVec 16)
  /-- GetPortStatus returns wPortStatus and wPortChange of ports 1-17 (R263). -/
  | getPortStatus (port : HubPortId)
  /-- SetPortFeature(PORT_POWER) sends an ON request to the port's warden (R269). -/
  | setPortFeaturePower (port : HubPortId)
  /-- SetPortFeature(PORT_RESET) moves the port to Reset and starts reset drive (R265). -/
  | setPortFeatureReset (port : HubPortId)
  /-- SetPortFeature(PORT_SUSPEND) suspends an enabled port at the next tick boundary (R265). -/
  | setPortFeatureSuspend (port : HubPortId)
  /-- SetPortFeature(PORT_TEST) puts a downstream port in a USB 2.0 test mode, or STALLs on port 17 (R263). -/
  | setPortFeatureTest (port : HubPortId) (mode : Byte)
  /-- SetPortFeature(PORT_INDICATOR) is answered with STALL (R263). -/
  | setPortFeatureIndicator (port : HubPortId)
  /-- ClearPortFeature(PORT_ENABLE) disables an enabled port (R265). -/
  | clearPortFeatureEnable (port : HubPortId)
  /-- ClearPortFeature(PORT_POWER) moves the port to Powered-off and sends an OFF request (R265). -/
  | clearPortFeaturePower (port : HubPortId)
  /-- ClearPortFeature(PORT_SUSPEND) moves a suspended port to Resuming (R265). -/
  | clearPortFeatureSuspend (port : HubPortId)
  /-- ClearPortFeature of a C_PORT change feature clears that change bit (R263). -/
  | clearPortChange (port : HubPortId) (c : PortChange)
  /-- ClearTTBuffer closes the matching non-periodic entry CANCELLED or CANCELLED_LATE (R279). Operands: wIndex TT_port; of wValue the device address and the endpoint. -/
  | clearTtBuffer (ttPort : BitVec 16) (dev : BitVec 7) (ep : TtEndpoint)
  /-- ResetTT cancels every entry of the named TT and returns it to its initial state (R279). -/
  | resetTt (ttPort : BitVec 16)
  /-- StopTT halts the named TT until a ResetTT (R279). -/
  | stopTt (ttPort : BitVec 16)
  /-- A standard descriptor request returns the descriptor or string of R259, or STALL for absent or optional ones (R260). Operands: rack function or hub; descriptor type and index. -/
  | getDescriptor (func : Bool) (kind index : Byte)
  /-- SET_INTERFACE selects the single-TT or multi-TT presentation (R271). -/
  | setInterface (alt : Byte)
  /-- SET_CONFIGURATION configures the hub or rack function, and with 0 releases carved parcels and returns endpoints to fixed mode (R293). -/
  | setConfiguration (func : Bool) (v : Byte)
  /-- At the first tick boundary after a hub class request's status stage, the warden begins the requested action (R258). -/
  | portActionStart (port : HubPortId)
  /-- An idle line state stable for 2.5 µs on a disconnected port moves it to Disabled with C_PORT_CONNECTION (R267). -/
  | connectDetect (port : PortId) (speed : Speed)
  /-- A detected disconnect moves the port to Disconnected and closes its open split entries (R286). -/
  | disconnectDetect (port : PortId)
  /-- After 96 ticks of reset drive the port ends Enabled, or Disabled with a NO_TT event, with C_PORT_RESET (R265). Operands: the speed of the attached device. -/
  | resetDriveEnd (port : HubPortId) (speed : Speed)
  /-- K for 2.5 µs on a suspended port moves it to Resuming at the next boundary (R267). -/
  | deviceResume (port : HubPortId)
  /-- After 168 ticks of resume drive the port returns to Enabled with C_PORT_SUSPEND (R265). -/
  | resumeDriveEnd (port : HubPortId)
  /-- Babble or a port-side fault moves an enabled port to Error, closes its entries and counts one ERRORS event (R287). -/
  | portError (port : PortId)
  /-- A TT plot answers a start-split, opening a ledger entry, or NAKs or discards it without a free ID (R274). Operands: the split's target and its OUT payload. -/
  | startSplit (port : PortId) (dev : BitVec 7) (ep : BitVec 4) (periodic dirIn : Bool) (out : OutData)
  /-- A complete-split collects the split's result and closes its entry, or gets NYET or the no-match response (R276). -/
  | completeSplit (port : PortId) (dev : BitVec 7) (ep : BitVec 4) (dirIn : Bool)
  /-- A downstream attempt ends with a handshake or without one, leading to a retry in the next slot or closure ERR_FAR (R275). -/
  | splitAttemptEnd (id : BitVec 14) (res : AttemptResult)
  /-- NP_TIMEOUT ticks after a non-periodic entry opened uncollected, it closes TIMEOUT and raises SPLIT_TIMEOUT (R276). -/
  | splitTimeout (id : BitVec 14)
  /-- A periodic entry uncollected at the boundary opening tick N+5 closes TIMEOUT and counts in PER_MISS (R276). -/
  | periodicSplitTimeout (id : BitVec 14)
  /-- Vendor request SET_CARVE sets an endpoint to fixed or carved mode, taking or releasing parcels, or STALLs (R292). Operands: wValue [7:0] and [15:8]. -/
  | setCarve (epAddr k : Byte)
  /-- Vendor request GET_CARVE returns an endpoint's k, parcels holding data and mode (R291). -/
  | getCarve (epAddr : Byte)
  /-- An IN transaction on a rack-function endpoint returns data from its serving plot, or NAK (R284). Operands: endpoint; how the transaction goes. -/
  | rackFunctionIn (ep : Fin 16) (how : InRead)
  /-- Writing CLR in port word 196 clears the counters of words 194-196 (R300). -/
  | portUsbCountersClr (path : Path) (port : PortId)
  /-- A producer claims a sluice for a packet of class and length L, granted at once, queued, or refused with SLUICE_LONG (R309). -/
  | sluiceClaim (s : SluiceId) (peer : BitVec 7) (cls : TClass) (len : BitVec 8)
  /-- A waiting claim is granted when enough stages are free, Spate first, then oldest, then lowest peer (R310). -/
  | claimGrant (s : SluiceId)
  /-- A producer writes a word into its claimed packet, committing the packet with its last word (R313). -/
  | sluiceWrite (s : SluiceId) (data : W) (vb : BitVec 2) (poison last : Bool)
  /-- A consumer TAKEs the head word, or an empty-mode word from an empty sluice with UNDERRUNS counted (R317). -/
  | sluiceTake (s : SluiceId)
  /-- PEEK reports the head word's tag and the committed count without changing anything (R316). -/
  | sluicePeek (s : SluiceId)
  /-- Drop-remainder frees the rest of a partly taken packet within 4 cycles and counts in DROPS (R321). -/
  | dropRemainder (s : SluiceId)
  /-- A producer rewinds its open packet, freeing its words and claim and counting REWINDS (R330). -/
  | sluiceRewind (s : SluiceId)
  /-- Once its claim on the peer's sluice A is granted, the bank moves a plot-addressed packet from sluice B, rewriting PEER (R319). Operands: the plot whose sluice B holds the packet. -/
  | sluiceTransfer (p : PlotId)
  /-- An open packet with no word for STALE boundaries is committed truncated or freed, and SLUICE_STALE is raised (R332). -/
  | sluiceStale (s : SluiceId)
  /-- A culvert request whose last word's transaction ends with ACK is accepted and its ledger entry opened, or rejected with a result (R350). Operands: endpoint 2 or 1; whether its data words take a poison mark on their way to the culvert (R345); the words. -/
  | culvertRequest (spate : Bool) (poison : Bool) (ws : List W)
  /-- Culvert request READ reads units from C1, possibly from a prefetch buffer (R357). -/
  | c1Read (spate : Bool) (tag : Byte) (nopf lock : Bool) (unit : BitVec 2) (addr : BitVec 15) (count : BitVec 7)
  /-- Culvert request WRITE writes units to C1 (R357). -/
  | c1Write (spate : Bool) (tag : Byte) (lock : Bool) (unit : BitVec 2) (addr : BitVec 15) (data : List W)
  /-- Culvert request XFER sends one frame on C2 or C3 and collects its reply (R369). -/
  | xfer (spate : Bool) (c : CulvId) (tag : Byte) (idem lock : Bool) (station : Byte) (tx : List Byte) (rxLen : Byte)
  /-- Culvert request RMW reads a C1 word and writes (old AND AND_MASK) OR OR_MASK under the lock (R377). -/
  | rmw (spate : Bool) (tag : Byte) (lock : Bool) (addr : BitVec 15) (andMask orMask : BitVec 12)
  /-- Culvert request SEM_ACQ grants a semaphore for a range, or is rejected SEM_BUSY (R378). Operands: LEN - 1. -/
  | semAcq (spate : Bool) (c : CulvId) (tag : Byte) (base : BitVec 15) (len : BitVec 13) (sem : BitVec 3)
  /-- Culvert request SEM_REL releases the holder's semaphore, or is rejected SEM_NOT_HELD (R378). -/
  | semRel (spate : Bool) (c : CulvId) (tag : Byte) (sem : BitVec 3)
  /-- Culvert request CANCEL cancels the named operation by where it stands, or is rejected NOT_FOUND (R391). Operands: its own TAG, and what it names. -/
  | cancel (spate : Bool) (tag : Byte) (target : CancelName)
  /-- At an issue decision the CULV plot issues the next operation by class and acceptance order, yielding a Flow or Seep burst to Spate (R354). Operands: the cycle of the tick; whether another master holds C1_LOCK_N low (R367). -/
  | culvertIssue (c : CulvId) (cycle : Nat) (lock : Bool)
  /-- A C1 burst completes its data phases, and the operation closes OK or ERR_FAR on a parity error (R357). Operands: the data phases completed, as the slaves answered. -/
  | c1BurstEnd (phases : List C1Phase)
  /-- ACK_TO expiring ends the C1 burst at once and closes the operation TIMEOUT (R360). Operands: the phases completed before the timeout. -/
  | c1AckTimeout (phases : List C1Phase)
  /-- As arbiter on a free bus, the device takes the bus or drives C1_BG_OUT_N low to a requesting member (R363). Operands: whether others hold C1_BR_N, C1_LOCK_N low. -/
  | c1Grant (br lock : Bool)
  /-- A C1 tenure ends when the controller has no work or has carried TENURE phases while others request (R366). Operands: whether others hold C1_BR_N low. -/
  | tenureEnd (br : Bool)
  /-- A C2 or C3 reply completes at its gap, and the attempt ends OK or corrupted (R370). Operands: the characters received up to the gap. -/
  | serialReplyComplete (c : CulvId) (chars : List SerChar)
  /-- No start bit within REPLY_TO leaves the attempt without a reply (R370). -/
  | replyTimeout (c : CulvId)
  /-- An IDEM operation's failed attempt is repeated after MIN_IDLE up to three attempts, then closed (R389). -/
  | serialRetry (c : CulvId)
  /-- The ledger timeout firing closes the entry TIMEOUT, DETAIL 3, dropping any result under way (R388). -/
  | opTimeout (id : BitVec 14)
  /-- A semaphore held for SEM_TIMEOUT ticks is released and SEM_EXPIRED set (R379). -/
  | semTimeout (c : CulvId) (sem : BitVec 3)
  /-- After an in-range READ closes OK, the CULV plot opens a Seep prefetch of the next DEPTH words (R382). -/
  | prefetchStart (r : BitVec 3)
  /-- A quiet-range buffer becomes invalid AGE ticks after it was filled (R384). -/
  | prefetchAgeExpire (r : BitVec 3)
  /-- A foreign C1_AS_N fall invalidates the prefetch buffers when INV_FOREIGN is 1 (R384). Operands: whether that master holds C1_LOCK_N low. -/
  | foreignAsFall (lock : Bool)
  /-- A change on a LATN or PFAIL_IN input drives the routed ATTN_OUT and PFAIL_OUT within 20 ns and sets edge flags (R386). Operands: the new levels of LATN0-7 and PFAIL_IN. -/
  | attentionInputChange (latn : Byte) (pfail : Bool)
  /-- A valid BEAT frame resets LINK_SILENT and counts toward link up and role choice (R408). Operands of this and the other frames, which arrive between K27.7 and K29.7 free of code violations (R404): header, payload words, CRC. -/
  | tandBeatReceived (head : LinkHead) (pairWord tickWord : W) (crc : BitVec 16)
  /-- A MIRROR frame's records update the follower's mirrored entries and semaphores (R416). -/
  | tandMirrorReceived (head : LinkHead) (payload : List W) (crc : BitVec 16)
  /-- A FWD_REQ frame makes the keeper open its own entry for the follower's request (R418). Operands: the class of the endpoint the request came from, which no field of the frame carries, Spate of endpoint 2 (R420). -/
  | fwdReq (cls : TClass) (head : LinkHead) (idWord : W) (ws : List W) (crc : BitVec 16)
  /-- A FWD_RES frame closes the follower's entry with the result's STATUS, or is discarded for a closed entry (R418). -/
  | fwdRes (head : LinkHead) (idWord : W) (ws : List W) (crc : BitVec 16)
  /-- A SYNC_BEGIN frame makes the follower discard its mirror (R429). -/
  | syncBegin (head : LinkHead) (crc : BitVec 16)
  /-- A SYNC_END frame makes the follower answer SYNC_ACK with the count received (R429). -/
  | syncEnd (head : LinkHead) (n : W) (crc : BitVec 16)
  /-- A SYNC_ACK with a matching count sets MIRRORED and raises TAND_RESTORED, otherwise the keeper resyncs (R429). -/
  | syncAck (head : LinkHead) (n : W) (crc : BitVec 16)
  /-- An accepted HANDOVER frame makes the follower take over at the next boundary (R423). -/
  | handover (head : LinkHead) (crc : BitVec 16)
  /-- At a cadence sample's due cycle its timed READ enters the C1 class queue (R445). -/
  | timedReadDue (st : StreamId) (index : W)
  /-- The CAD plot builds the stream packet of its ticks, merging or discarding late ticks (R448). -/
  | cadencePacketBuild (st : StreamId)
  /-- An isochronous IN on a stream endpoint receives the built packet or a header-only packet (R450). -/
  | streamIn (st : StreamId)
  /-- Vendor request SET_ADJ sets a stream's ADJ from the next boundary (R453). -/
  | setAdj (wValue : BitVec 16) (adj : W)
  /-- Vendor request GET_CADENCE returns a stream's feedback value, ADJ and next sample index (R453). -/
  | getCadence (wValue : BitVec 16)
  /-- Port command CMD ON sends an ON request to the port (R468). -/
  | portCmdOn (path : Path) (port : PortId)
  /-- Port command CMD OFF sends an OFF request to the port (R468). -/
  | portCmdOff (path : Path) (port : PortId)
  /-- Port command FORCE_SET sets FORCE_OFF, which is an OFF request (R468). -/
  | forceSet (path : Path) (port : PortId)
  /-- Port command FORCE_CLR clears FORCE_OFF without issuing a request (R468). -/
  | forceClr (path : Path) (port : PortId)
  /-- Port command LATCH_CLR clears the port's latch and open-wire flags, or is refused while classifying or held safe (R491). -/
  | latchClr (path : Path) (port : PortId)
  /-- Port command RAIL_HV selects the high rail on an attached ON Type-C port (R480). -/
  | railHv (path : Path) (port : PortId)
  /-- Port command RAIL_5V returns the port to the 5 V rail (R481). -/
  | rail5v (path : Path) (port : PortId)
  /-- At the first boundary after ON or OFF requests arrive, the warden takes them and starts RAMP or DISCHARGE or records PEND_ON (R467). -/
  | portRequestTaken (port : PortId)
  /-- SS_TICKS after RAMP began the port enters ON on a good VSNS sample, or DISCHARGE with PORT_RAMP_FAIL (R469). -/
  | rampEnd (port : PortId)
  /-- Two consecutive valid VSNS samples below D08 end DISCHARGE in OFF, ramping again when PEND_ON is set (R470). -/
  | dischargeEnd (port : PortId)
  /-- DISCHARGE lasting DISCH_TO ticks raises DISCHARGE_SLOW once (R470). -/
  | dischargeSlow (port : PortId)
  /-- A warden takes a sample set, updates its pair means and applies the open-wire and slow-threshold rules (R479). -/
  | wardenSampleSet (p : PlotId)
  /-- ISNS above ILIM_SLOW for ILIM_TICKS ticks takes the port to DISCHARGE with LATCH SLOW_OC (R490). -/
  | portSlowOc (port : PortId)
  /-- An ADC claim not granted by cycle 1,200 drops the plot's sample set and raises ADC_SET_DROP (R476). -/
  | adcSetDrop (p : PlotId)
  /-- A comparator crossing past its deglitch switches the port off in hardware, latches the cause and enters DISCHARGE (R484). Operands: the port, the comparator, and the FCLK cycle of the tick at which it tripped (R486). -/
  | protectionTrip (port : PortId) (cmp : Comparator) (cycle : Nat)
  /-- From the first usable post-trip samples the warden decides a real fault or an open wire and raises one event (R486). -/
  | tripClassified (port : PortId)
  /-- The VSNS pair mean reaching the new rail's level completes the rail change and sets RAIL_DONE (R480). -/
  | railDone (port : PortId)
  /-- The high rail not reached within RAIL_SETTLE ticks returns HV_SELn low and raises PORT_RAIL_FAIL (R480). -/
  | portRailFail (port : PortId)
  /-- An attached pattern on an unattached port enters ATTACH_WAIT (R504). -/
  | tcAttachWait (t : TcId)
  /-- A pattern stable for 1,200 boundaries with the port OFF enters ATTACHED, AUDIO or DEBUG and gates VBUS on when wanted (R504). -/
  | tcAttach (t : TcId)
  /-- The BMC CC reading Open for 120 boundaries returns the port to UNATTACHED, opens VCONN and issues OFF (R504). -/
  | tcDetach (t : TcId)
  /-- 240 ticks in ERROR_RECOVERY return the port to UNATTACHED (R504). -/
  | errorRecoveryEnd (t : TcId)
  /-- Both CC balls below 5.5 V for 64 boundaries move CC_FAULT to ERROR_RECOVERY (R504). -/
  | ccFaultClear (t : TcId)
  /-- A CC ball above 5.75 V for 2 µs opens VCONN, removes Rp, stops BMC and raises CC_OV (R534). -/
  | ccOv (t : TcId)
  /-- PD_CMD SEND transmits the transmit mailbox with automatic MessageID, or is refused (R518). -/
  | send (path : Path) (t : TcId)
  /-- After 25 µs of idle line the PHY begins transmitting a pending SEND (R518). -/
  | pdTxStart (t : TcId)
  /-- A matching GoodCRC ends the transmission OK and advances the MessageID counter (R518). -/
  | pdGoodcrcReceived (t : TcId) (sop : BitVec 2) (msgId : BitVec 3)
  /-- No GoodCRC within 1.0 ms retries up to twice, then ends FAILED with one PD_TX_FAIL event (R520). -/
  | pdGoodcrcTimeout (t : TcId)
  /-- PD_CMD HARD_RESET clears a pending SEND and sends Hard Reset signalling (R523). -/
  | hardReset (path : Path) (t : TcId)
  /-- Hard Reset signalling ends, or 4.5 ms pass, and HR_DONE is set with MessageID state reset (R523). -/
  | hrDone (t : TcId)
  /-- Received Hard Reset signalling clears a pending SEND, resets MessageID state and raises PD_HARD_RESET (R523). -/
  | hardResetReceived (t : TcId)
  /-- With HR_AUTO, 240 ticks after a Hard Reset the warden opens VCONN and issues OFF (R525). -/
  | hrPowerRemove (t : TcId)
  /-- With HR_AUTO, 5,600 ticks after the port reaches OFF the warden restores VCONN and VBUS and sets HR_RECOVERED (R525). -/
  | hrPowerRestore (t : TcId)
  /-- PD_CMD CABLE_RESET sends Cable Reset signalling and resets SOP' and SOP'' MessageID state (R526). -/
  | cableReset (path : Path) (t : TcId)
  /-- PD_CMD CANCEL clears a SEND before its preamble, or finishes it CANCELLED_LATE (R532). -/
  | pdCancel (path : Path) (t : TcId)
  /-- PD_CMD RX_POP frees the slot at RX_HEAD, or is refused on an empty queue (R538). -/
  | rxPop (path : Path) (t : TcId)
  /-- PD_CMD RX_FLUSH frees every receive slot, or is refused on an empty queue (R538). -/
  | rxFlush (path : Path) (t : TcId)
  /-- PD_CMD VCONN_ON closes the VCONN switch within 2 µs when allowed, or is refused (R512). -/
  | vconnOn (path : Path) (t : TcId)
  /-- PD_CMD VCONN_OFF opens the VCONN switch within 2 µs (R512). -/
  | vconnOff (path : Path) (t : TcId)
  /-- PD_CMD RP sets a new Rp level at the next boundary (R506). -/
  | rp (path : Path) (t : TcId) (level : BitVec 2)
  /-- PD_CMD AMS_END returns Rp to SinkTxOK (R522). -/
  | amsEnd (path : Path) (t : TcId)
  /-- PD_CMD ERROR_RECOVERY moves the Type-C port to ERROR_RECOVERY (R504). -/
  | errorRecovery (path : Path) (t : TcId)
  /-- PD_CMD BIST_CARRIER sends the BIST carrier for 45 ms (R521). -/
  | bistCarrier (path : Path) (t : TcId)
  /-- 18.0 ms after Rp is set to SinkTxNG for an AMS SEND, the transmission proceeds (R522). -/
  | sinktxDelayEnd (t : TcId)
  /-- An accepted PD frame gets GoodCRC and is delivered by RX_ROUTE, or dropped as duplicate or for a full queue (R515). -/
  | pdMessageReceived (t : TcId) (sop : BitVec 2) (crcOk : Bool) (bytes : List Byte)
  /-- A VCONN switch in current limit for 1 ms opens and raises VCONN_OC (R513). -/
  | vconnOc (t : TcId)
  /-- Endpoint 4 request OP SEND transmits a PD message through the port's mailbox (R528). -/
  | ep4Send (t : TcId) (tag : Byte) (sop : BitVec 2) (ams : Bool) (bytes : List Byte)
  /-- Endpoint 4 request OP HARD_RESET sends Hard Reset signalling (R528). -/
  | ep4HardReset (t : TcId) (tag : Byte)
  /-- Endpoint 4 request OP CABLE_RESET sends Cable Reset signalling (R528). -/
  | ep4CableReset (t : TcId) (tag : Byte)
  /-- Endpoint 4 request OP CANCEL cancels the port's pending SEND (R528). -/
  | ep4Cancel (t : TcId) (tag : Byte)
  /-- Endpoint 4 request OP BIST_CARRIER sends the BIST carrier (R528). -/
  | ep4BistCarrier (t : TcId) (tag : Byte)
  /-- At the first boundary after its hold runs out, a source leaves severe, a RELEASED message is written and its scope resumes (R562). -/
  | severeRelease (src : BitVec 7)
  /-- HW_CTL.QCLR empties the Hayward message queue (R205). -/
  | hwQueueClear (path : Path)
  /-- HW_CTL.INJ_ARM arms one field injection at the first eligible access of an armed target (R572). -/
  | injArm (path : Path) (on : Bool)
  /-- Writing FLT_PIN.HOLD 0 releases FAULT_N once MIN_RUN has ended (R566). -/
  | faultHoldRelease (path : Path)
  /-- Writing FLT_PIN.FORCE asserts or releases FAULT_N without starting MIN_RUN (R208). -/
  | faultForce (path : Path) (on : Bool)
  /-- Keyed SAFE_CTL CMD 1 enters the device safe state (R567). -/
  | safeEnter (path : Path) (key : BitVec 16)
  /-- Keyed SAFE_CTL CMD 2 requests release of the device safe state, refused while a source is severe (R569). -/
  | safeRelease (path : Path) (key : BitVec 16)
  /-- A parity failure in a Hayward word sets SELF_PAR and enters the device safe state (R570). Operands: the Hayward word that failed; whether the queue passes its own check. -/
  | selfPar (word : Byte) (queueOk : Bool)
  /-- An IN on endpoint 3 receives up to 14 ring messages with a header, removed on ACK, or NAK (R552). -/
  | eventRingIn (ack : Bool)
  /-- The standard request SET_ADDRESS gives the hub or the rack function its USB address, shown in ADDR or F_ADDR (R301). -/
  | setAddress (func : Bool) (addr : BitVec 7)
  /-- The standard request SetFeature(DEVICE_REMOTE_WAKEUP) enables remote wake of the hub or the rack function, setting RWAKE_EN or F_RWAKE_EN (R282). -/
  | setFeature (func : Bool)
  /-- The standard request ClearFeature clears ENDPOINT_HALT on a halted rack-function endpoint, or clears DEVICE_REMOTE_WAKEUP (R288). Operands: an endpoint's ENDPOINT_HALT, or DEVICE_REMOTE_WAKEUP. -/
  | clearFeature (func : Bool) (halt : Option (Fin 16))
  /-- A C2 or C3 frame ends and Cn_DE falls DE_LAG bit times after the last stop bit; this completes an RX_LEN 0 attempt or starts the REPLY_TO wait (R370). Operands: whether an echoed character differed. -/
  | serialFrameEnd (c : CulvId) (echoBad : Bool)
  /-- Cable Reset signalling ends, the SOP' and SOP'' MessageID state is reset and CR_DONE is set (R526). -/
  | crDone (t : TcId)
  /-- The BIST carrier mode ends 45 ms after it began, and the PHY returns to idle (R521). -/
  | bistCarrierEnd (t : TcId)
  /-- The TAP's Update-DR state loads the shifted boundary-register values, which the chain's balls then follow under EXTEST or CLAMP (R601). -/
  | updateDr (bits : BitVec 177)
  /-- At cycle 120 of the tick an expecting boundary opens, the tick generator decides whether a SOF in window belongs to it and sets the state (R637). -/
  | sofDecision
  /-- Eight consecutive expecting boundaries without a SOF in ACQUIRE return the tick generator to FREE (R27). -/
  | acquireToFree
  /-- A stretched tick with no valid SOF by cycle 60,000 ends there and counts as a boundary without a SOF (R29). -/
  | stretchTimeout
  /-- At full speed a stretch ends the tick at cycle c + 30,000, placing microframe 0 at the SOF that caused it (R636). -/
  | fsStretchEnd
  /-- Every 64 ticks in ACQUIRE with the trim at a range end, TICK_STAT.RANGE is set and a TICK_RANGE event raised (R32). -/
  | tickRange
  /-- A low pulse on RST_N of 500 ns or longer asserts a device reset and puts the balls in their reset states (R76). -/
  | pinReset
  /-- VIO_C1 below 2.85 V puts the C1 bank in its reset state within 2 µs and raises a VIO_C1_LOW event (R77). -/
  | vioC1Low
  /-- At the first boundary after VIO_C1 has stayed above 2.95 V for 64 ticks and its mode is decided, the C1 bank returns to its configured state (R77). -/
  | c1BankReturn
  /-- VCONN_IN below 4.5 V opens every VCONN switch within 10 µs and raises a VCONN_LOW event (R78). -/
  | vconnLow
  /-- VSTBY below 1.6 V loses the standby domain while the device keeps running (R89). -/
  | vstbyLoss
  /-- When VSTBY exceeds 1.8 V after loss, or arrives late at power-up, the standby domain is cleared and STBY_LOST set (R104). -/
  | vstbyReturn
  /-- UP_VBUS rising above 4.0 V in RUN makes the headgate connect its D+ pull-up within 2 ticks (R262). -/
  | vbusPresent
  /-- UP_VBUS falling below 3.0 V makes the headgate disconnect its D+ pull-up within 2 ticks and ignore the bus (R262). -/
  | vbusAbsent
  /-- The seeder finishes reading and checking the option-byte copies and fuse state, writes the shadow and zero-fills the commons (R110). -/
  | seedingDone
  /-- Once seeding has ended and the PLL has locked, the FCLK, USB, ADC and LINK domains leave reset and the tick generator starts in FREE (R102). -/
  | domainRelease
  /-- With AUTOLOAD 1, the device reads and checks the image, copies its sections, writes CFG_REF and starts a CRC pass with the load checks (R226). -/
  | autoload
  /-- At the first tick boundary after a passing autoload or STARTUP commit, the furrows start and RUN begins (R108). -/
  | furrowsStart
  /-- A soft reset written from the USB path asserts 100 µs after the request's status stage (R187). -/
  | usbSoftResetAssert
  /-- An armed tick watchdog that counts 66 standby cycles without a tick boundary asserts a device reset (R135). -/
  | tickWatchdog
  /-- At the next boundary the device checks the block's idle condition and either holds it in reset for one tick or refuses the request (R132). -/
  | blockResetTaken
  /-- One tick after a block reset began, the block leaves reset (R132). -/
  | blockResetEnd
  /-- At the first boundary with no open ledger entry, every plot except WARD and TAND pauses and STATE becomes QUIESCE (R114). -/
  | quiesceEnter
  /-- At the boundary after a RUN request, paused plots resume and the headgate accepts operations again (R116). -/
  | quiesceResume
  /-- At the first boundary with the headgate suspended, REST_EN 1, no open entry and the device in RUN, the device enters REST (R117). -/
  | restEnter
  /-- When the ledger has not drained 256 ticks after a suspend, REST_BLOCKED is set and the device stays in RUN (R117). -/
  | restBlocked
  /-- At the first boundary at least 200 µs after a wake event, the furrows resume, the watchdog rearms and held updates restart (R120). -/
  | restResume
  /-- Shutdown step 1 refuses new operations, halts rotation, swaps, fences and commits, drops pending updates and completes at the next boundary (R124). -/
  | shutdownStop
  /-- Shutdown step 2 completes when no ledger entry is open, cancelling entries still open after 256 ticks (R124). -/
  | shutdownDrain
  /-- Shutdown step 3 discharges every port and completes when all are OFF or after 800 ticks, raising DISCHARGE_SLOW for each port not OFF (R124). -/
  | shutdownPorts
  /-- Shutdown step 4 releases C1, drops C2_DE and C3_DE, hands over tandem keeping and completes at the following boundary (R124). -/
  | shutdownBuses
  /-- Shutdown step 5 disconnects the D+ pull-up and completes at the next boundary (R124). -/
  | shutdownUpstream
  /-- Shutdown step 6 stops the furrows, puts every ball at its safe level and completes at the next boundary (R124). -/
  | shutdownField
  /-- Shutdown step 7 asserts device reset within 10 µs of step 6, clears SHUTDOWN_INCOMPLETE and begins STANDBY (R124). -/
  | shutdownStandby
  /-- A RUN request recorded during shutdown releases reset 100 µs into STANDBY and starts again from seeding (R138). -/
  | standbyRestart
  /-- A frame with no clock has no outcome and changes neither TSTAT nor the status byte (R190). -/
  | tallyNullFrame
  /-- TCS_N held low for more than 8 ticks makes the frame malformed and drops any HW_MSG hold (R188). -/
  | tallyFrameTimeout
  /-- At the first boundary after the owner's write buffer drains, the device starts a CRC pass and the load checks (R232). -/
  | commitCheckStart
  /-- At the end of the checking pass the commit is accepted and applied per state, or refused with CHECK_CODE and FAIL_PLOT (R234). -/
  | commitCheckEnd
  /-- A commit accepted in QUIESCE applies every changed plot and device-scope word together at the next boundary (R237). -/
  | commitApplyQuiesce
  /-- A 64-tick CRC pass ends, writes CFG_CRC and, when compared, sets MISMATCH and raises CFGCRC on a difference (R229). -/
  | crcPassEnd
  /-- An open window reaching 4,096 ticks uncommitted sets EXPIRED, raises CFGCRC, cancels a pending fence and recommits without applying (R250). -/
  | cfgWindowExpire
  /-- The fallow furrow loads a changed plot's new working copy in the load tick of a swap-based update (R241). -/
  | updateLoad
  /-- At the boundary after a fence is requested or accepted, its listed plots pause for one tick with FENCED set (R246). -/
  | fencePause
  /-- At the boundary after the pause, listed plots load their working copies where a commit applies, leave the pause and APPLIED is set (R245). -/
  | fenceApply
  /-- The rotation counter reaching 2^PERIOD makes a rotation due (R578). -/
  | rotationDue
  /-- At the first boundary at which a due rotation is allowed, the fallow begins shadowing the plot on the next furrow (R579). -/
  | shadowStart
  /-- The fallow furrow's four-phase self-test begins in the tick its swap boundary opens (R582). -/
  | furrowTestStart
  /-- A test that ends every phase without a fault records LAST_TESTED, LAST_PASS and LAST_SIG (R583). -/
  | furrowTestComplete
  /-- At the next boundary the failed carrying furrow is marked failed and its plot moves to the fallow, an IDLE plot's furrow, or is stranded (R594). -/
  | carryingFurrowFail
  /-- Every 64 ticks the ADC checks the reference means and replaces the correction or counts a failing set and raises ADC_CAL (R587). -/
  | adcCal
  /-- JTRST_N low, five JTCK edges with JTMS high or VDD_IO power-on resets the TAP and selects IDCODE (R598). -/
  | tapReset
  /-- Instruction EXTEST puts the chain's balls under the boundary register (R601). -/
  | extest
  /-- Instruction IDCODE places the 32-bit device identification between JTDI and JTDO (R599). -/
  | idcode
  /-- Instruction HIGHZ turns every enable cell off and selects bypass (R598). -/
  | highz
  /-- Instruction CLAMP drives the balls from the boundary register and selects bypass (R598). -/
  | clamp
  /-- Instruction FTAP gives factory access while it is open, and acts as bypass otherwise (R602). -/
  | ftap
  /-- Instruction BYPASS, and every unlisted code, places the 1-bit bypass register between JTDI and JTDO (R598). -/
  | bypass
  /-- 64 ticks after an ARM without a BLOW, ARMED clears (R603). -/
  | fuseArmExpire
  /-- GetHubStatus returns local power good, no over-current and wHubChange 0 (R263). -/
  | getHubStatus
  /-- GetHubDescriptor returns the 13-byte hub descriptor (R263). -/
  | getHubDescriptor
  /-- SetHubDescriptor is answered with STALL (R263). -/
  | setHubDescriptor
  /-- GetTTState is answered with STALL (R263). -/
  | getTtState
  /-- A reset of port 17 resets the rack function, releases its parcels, cancels its entries and releases its semaphores (R295). -/
  | port17Reset
  /-- 3.0 ms of upstream idle suspends the headgate (R280). -/
  | headgateSuspend
  /-- On a hub wake condition with remote wake enabled, the headgate drives K upstream for 10 ms, no earlier than 5 ms after suspending (R282). -/
  | remoteWake
  /-- A requesting member latching C1_BG_IN_N low takes the grant, releases C1_BR_N and owes a C1_AS_N fall (R365). -/
  | c1GrantTaken
  /-- A grant not taken within T_TAKE is withdrawn and ARB_NOTAKE set (R363). -/
  | arbNotake
  /-- The keeper's beat item pulls HB low for 2 µs and sends a BEAT frame (R411). -/
  | beatItem
  /-- An invalid link frame is discarded and counted in CRC_ERR (R407). -/
  | tandFrameInvalid
  /-- A sequenced frame unacknowledged for 4 ticks is resent with every later one and RETX counted (R410). -/
  | tandResend
  /-- An HB pulse of at least 0.5 µs not driven by the device is counted and resets HB_SILENT (R412). -/
  | hbPulse
  /-- HB held low more than 10 µs raises TAND_HB_STUCK (R412). -/
  | hbStuck
  /-- Valid BEAT frames in 4 consecutive ticks bring the link up (R415). -/
  | tandLinkUp
  /-- LINK_SILENT reaching 8 takes the link down, closing sent forwarded operations and raising TAND_LINK_LOST (R421). -/
  | tandLinkLost
  /-- A LISTEN plot becomes FOLLOWER on finding a keeper or KEEPER after 40 ticks (R414). -/
  | tandListenEnd
  /-- At the first boundary with the link down and HB_SILENT at least 32, the follower resolves its mirror and becomes keeper (R423). -/
  | tandTakeover
  /-- A keeper with 8 boundaries without its beat item, or a seized TAND plot, releases C1 and enters FENCED (R426). -/
  | tandSelfFence
  /-- A FENCED plot returns to LISTEN at its next boundary once its TAND plot runs again (R427). -/
  | tandFencedToListen
  /-- The Hayward latches an event, queues it as a message and counts it, declaring its source severe at threshold or on a hazard (R547). -/
  | eventLatch
  /-- FMIN × 50 µs after a hardware assertion MIN_RUN clears (R565). -/
  | faultMinRunEnd
  /-- At the next boundary with no severe source, the Hayward reloads its working copies and leaves the device safe state (R569). -/
  | safeReleaseApply
  /-- Upstream resume signalling, or renewed bus activity, ends the headgate's suspended state while the device stays in RUN (R280). -/
  | headgateResume
  /-- VIO_C1 rising through 2.95 V brings the C1 bank from absent into its reset state and starts the 20 ms wait before the mode decision (R68). -/
  | vioC1Rise
  /-- VCONN_IN rising back above 4.5 V makes it present again, so VCONN_ON and VCONN_AUTO are no longer refused (R535). -/
  | vconnInReturn
  deriving DecidableEq, Repr

end Sys2Proof
end

