-- ==== Sys2Proof/Decode.lean ====
section
/-!
DEFINITION. The table decoder. spec/opcode_table.json gives no row any bits ("fields" is empty in every row):
a command of the block is no word, so no word spells one and the decoder refuses every word by answering none.
-/

namespace Sys2Proof

/-- The command a word spells by the table's bits: the table gives no row bits. -/
def decodeTableWord (_nbits _w : Nat) : Option Instr := none

end Sys2Proof
end

