-- ==== Sys2Proof/Config.lean ====
section
/-!
DEFINITION. The constants of the B0 silicon and the FREE VALUES: the values the spec leaves open, as
constants with no body. No proof can see what they are; the counter `State.free` of the machine supplies a
fresh argument each time one is taken (log 3).
-/

namespace Sys2Proof

/-- R1, R198: the ID register. -/
def Config.id : W := 0x52596416
/-- R198: REV, silicon B0 and map version 0x01. -/
def Config.rev : W := 0x000001B0
/-- R139, R202, R209, R211: the key of guarded commands. -/
def Config.key : Nat := 0x5EED
/-- R99: the soft-reset key. -/
def Config.softKey : Nat := 0x7A11
/-- R583: the logic BIST signature fixed in silicon. -/
def Config.bistSig : W := 0x6C1B52E7
/-- R599, R633: the device identification of boundary scan. -/
def Config.idcode : W := 0x264169D3
/-- R22: FCLK cycles of a tick that is not stretched. -/
def Config.tickCycles : Nat := 30000
/-- R38: cycles of the turnaround window. -/
def Config.windowCycles : Nat := 1500

/-- R28: what the steering law adds to the trim, in 1/32 ppm; the law is left to the implementation. FREE VALUE. -/
opaque Config.trimStep : Nat → BitVec 16
/-- R131: the raw bits a torn word kept at their erased value. FREE VALUE. -/
opaque Config.tornBits : Nat → BitVec 32
/-- R131: what a cut erase left a word as: 0 erased, 1 unchanged, 2 failing its check bits, 3 passing them
with other data. FREE VALUE. -/
opaque Config.cutWord : Nat → BitVec 2
/-- R131: the data of a word of a cut sector that is neither old nor erased. FREE VALUE. -/
opaque Config.cutData : Nat → BitVec 32
/-- R228: whether a pass reads the new value of a word written in the same tick. FREE VALUE. -/
opaque Config.passNew : Nat → Bool
/-- R583: LAST_SIG after a test that fails in phase 3 (another value than the silicon signature). FREE VALUE. -/
opaque Config.failSig : Nat → BitVec 32
/-- R105: whether a brown-out within 1 us of a standby write keeps the old value. FREE VALUE. -/
opaque Config.stbyOld : Nat → Bool
/-- R74, R131, R605: whether a fall of VDD_CORE or VDD_IO tears the word, or the fuse, of a pulse under way.
FREE VALUE. -/
opaque Config.tears : Nat → Bool
/-- R89, R104: what the standby domain reads as between the loss of VSTBY and its return. FREE VALUE. -/
opaque Config.lostWord : Nat → BitVec 32
/-- R292, R385: which parcel of the free pool is handed out; the spec names none. FREE VALUE, taken modulo the pool. -/
opaque Config.pickParcel : Nat → BitVec 12
/-- R288: how many parcels the buffers of the TT plot Pp take under its PARCEL_CAP; no rule gives the number. FREE VALUE. -/
opaque Config.ttParcels : Nat → BitVec 12
/-- R399: the close reason that the ledger shows for a forwarded operation that the keeper rejected. FREE VALUE. -/
opaque Config.rejectClose : Nat → BitVec 3

/-- R334, R477: the reason reported for a sample that came in a poisoned word: 1, 2, 4 or 5, the codes of an invalid
sample. FREE VALUE. -/
opaque Config.poisonReason : Nat → BitVec 2

/-- R42: the cycles an item ran before it was rolled back inside a tick. FREE VALUE, taken up to the cycles that were
left. -/
opaque Config.ranCycles : Nat → BitVec 15

/-- R450: TICK of a header-only stream packet, which carries no tick. FREE VALUE. -/
opaque Config.noTick : Nat → BitVec 32

/-- R501: whether the PHY is transmitting at the boundary while a SEND is under way. FREE VALUE. -/
opaque Config.sendsNow : Nat → Bool

/-- R431: whether the second keeper has the same INIT_ROLE, which no frame carries. FREE VALUE. -/
opaque Config.partnerSame : Nat → Bool

/-- R416: the close reason that the ledger shows for a mirrored entry whose record closed. FREE VALUE. -/
opaque Config.mirrorClose : Nat → BitVec 3

/-- R334: the stage of the sluice whose word failed its parity. FREE VALUE. -/
opaque Config.sluiceStage : Nat → BitVec 5

end Sys2Proof
end

