-- ==== Sys2Proof/Machine/State.lean ====
section
/-!
DEFINITION. The state of the block as plain data: every register, buffer, counter, mode and pin the spec gives
it, grouped by the chapter that owns it, and the queue of waiting commands. Each field cites its rule. Fields
marked OWN are the model's, not the spec's (log 7). State.reset stands at the end.
-/

namespace Sys2Proof.Machine

/-- Why the machine stops. Raised by execTickBoundary alone, when its operand lists are not the 34 ADC codes
and the 4 pairs of CC levels that every world presents (log 2). Safe: no real block meets it. -/
inductive Fault where
  | malformedWorld
  deriving DecidableEq, Repr

/-- Why a command has no meaning. `notModelled` is raised by no arm of a finished model (safe). -/
inductive Refusal where
  | notModelled (mnemonic : String)
  deriving DecidableEq, Repr

/-- A sparse table by address in one canonical form: addresses rising, no entry equal to what an unlisted
address reads as (log 10). -/
abbrev Store (α : Type) := List (Nat × α)

/-- What a command answers. -/
abbrev Res (σ : Type) := Host.Outcome σ Fault Refusal

/-! ### The tick generator (R22 to R37, R60, R61, R635 to R637) -/

/-- R27, R60. -/
inductive TickSt where
  | free | acquire | locked | holdover
  deriving DecidableEq, Repr

/-- A stretched tick under way: the cycle of the SOF that caused it, and the cycle at which it ends once that
is known; `bySof` when a SOF ends it (R29, R636). -/
structure Stretch where
  cause : Nat
  endAt : Option Nat
  bySof : Bool
  deriving DecidableEq, Repr

/-- A SOF in window, with its phase error and numbers (R26, R637). -/
structure Sof where
  err : Int
  frame : BitVec 11
  uf : BitVec 3
  deriving DecidableEq, Repr

structure Tick where
  st : TickSt            -- R60 STATE
  count : W              -- R25 TICK_COUNT
  now : Nat              -- OWN: boundaries since the domains were released
  frame : BitVec 11      -- R60 FRAME
  uframe : BitVec 3      -- R60 UFRAME
  sofMiss : Bool         -- R60
  restep : Bool          -- R60
  range : Bool           -- R60
  ovrAny : Bool          -- R60
  curTrim : BitVec 16    -- R61 CUR_TRIM
  freeTrim : BitVec 8    -- R61 FREE_TRIM
  toutMode : BitVec 2    -- R61 TOUT_MODE
  holdLast : Bool        -- R61 HOLD_LAST
  lastLocked : BitVec 16 -- R33: the last trim reached in LOCKED
  stretch : Option Stretch
  pendSt : Option TickSt -- R637: a state change for the boundary that ends this tick
  sofNow : Option Sof    -- R637: the SOF of the boundary that opened this tick
  sofNext : Option Sof   -- R637: a SOF captured before the next boundary
  decided : Bool         -- R637: the decision of this tick is made
  endedStretch : Bool    -- R31: the boundary that opened this tick ended a stretch
  inWin : Nat            -- R27: consecutive SOFs in window
  missRun : Nat          -- R27: consecutive boundaries without a SOF
  rangeTicks : Nat       -- R32
  tickOut : Bool         -- R36: a pulse at the boundary that opened this tick
  deriving DecidableEq, Repr

/-! ### Plots (R17 to R21, R41 to R45, R51, R53, R64, R559, R594) -/

/-- A ready item: its kind (R640) and what it is about (a ledger ID or a port number). -/
structure Item where
  kind : Nat
  ref : Nat
  deriving DecidableEq, Repr

/-- The item under way: since which cycle, its class, its cost. -/
structure Running where
  item : Item
  cls : TClass
  start : Nat
  deriving DecidableEq, Repr

structure Plot where
  wc : Store W           -- R217: working copy, words at their configuration addresses
  furrow : Nat           -- R64 FURROW
  shadowed : Bool        -- R64
  fenced : Bool          -- R64
  epoch : BitVec 16      -- R64 EPOCH
  lastUsed : Nat         -- R64
  lastSpate : Nat        -- R64
  peakUsed : Nat         -- R64
  peakSpate : Nat        -- R64
  ovrCnt : Nat           -- R64, saturating
  spxCnt : Nat           -- R64, saturating
  used : Nat             -- R42: cycles of the running tick
  spate : Nat            -- R42
  running : Option Running -- R41
  ready : List Item      -- R438, oldest first
  paused : Bool          -- R114
  seized : Bool          -- R559
  stranded : Bool        -- R595
  restart : Bool         -- R559, R594: starts again in its role's initial state
  reloadWc : Bool        -- R594: working copy to be reloaded once the configuration is not open
  parcels : List Nat     -- R223, R288, R290, R385: the parcels held
  zeroing : List Nat     -- R293, R559: parcels given back, still to be zero-filled
  deriving DecidableEq, Repr

/-! ### Field controller, rotation, tests (R20, R59, R63, R213, R214, R578 to R597, R606) -/

inductive FState where
  | carrying | fallow | shadowing | failed
  deriving DecidableEq, Repr

/-- A furrow's FIELD_MAP word (R63); plot 63 is none. -/
structure FMap where
  plot : Nat
  fst : FState
  deriving DecidableEq, Repr

/-- What a shadowing serves (R579, R585, R241). -/
inductive ShadowWhy where
  | rotation | forced | update
  deriving DecidableEq, Repr

/-- A shadowing under way: what for, the plot and its furrow, the boundary it began at, first mismatch seen,
and the new working copy an update has loaded (R241, R580, R581). -/
structure Shadow where
  why : ShadowWhy
  plot : Nat
  target : Nat
  since : Nat
  mism : Bool
  newWc : Store W
  deriving DecidableEq, Repr

structure Field where
  map : List FMap        -- R63, 64 entries
  fallow : Option Nat    -- R214 FALLOW: the fallow or shadowing furrow
  period : BitVec 5      -- R213
  halt : Bool            -- R213
  counter : Nat          -- R578
  due : Bool             -- R606
  shadow : Option Shadow -- R580
  testAt : Option Nat    -- R582: the boundary at which the running test began
  testWait : Bool        -- R582, R584: a test is still to begin
  forceReq : Option Nat  -- R585
  failed : List Nat      -- R606 FAILED_LO/HI
  noSpare : Bool         -- R214
  lastTested : Nat       -- R214
  lastPass : Bool        -- R214
  busy : Bool            -- R214
  swapDone : Bool        -- R214
  testFail : Bool        -- R214
  failedF : Nat          -- R214
  pendFail : List Nat    -- R594: carrying furrows whose failure waits for the boundary
  memReq : Bool          -- R590: an accepted request waits for the boundary
  memRun : Bool          -- R214
  memDone : Bool         -- R214
  memFail : Bool         -- R214
  memAborted : Bool      -- R606 ABORTED
  failWord : Nat         -- R606
  failValid : Bool       -- R606
  retired : List Nat     -- R592: retired parcels
  testsPassed : BitVec 16 -- R606
  swaps : BitVec 16      -- R606
  lastSig : W            -- R606
  shadowMis : BitVec 8   -- R606
  refuseWhy : Nat        -- R606
  deriving DecidableEq, Repr

/-! ### Supplies, reset and power states (R68 to R80, R98 to R145) -/

/-- Where the device stands between power-on and STANDBY. `powerOn`: held by the rail monitors (R75).
`held`: reset asserted by RST_N or waiting for an NVM or fuse pulse (R130). PWR_STATE.STATE (R143) is
computed from it. -/
inductive Phase where
  | powerOn | held | seeding | seeded | startup | run | quiesce | rest | shutdown | seedFail | standby
  deriving DecidableEq, Repr

structure Pwr where
  phase : Phase
  railsLow : List Rail   -- R74: rails that fell in the brown-out under way; none in a power-on
  rstN : Bool            -- R76: level of RST_N
  porDone : Bool         -- R75: power-on reset released
  seedBad : Bool         -- R127: both option-byte copies failed
  testmode : Bool        -- R602: level of TESTMODE at the last reset release
  factory : Bool         -- R602: factory access is open
  restEn : Bool          -- R143
  reqQuiesce : Bool      -- R114: QUIESCE entry waits for the ledger
  stopNew : Bool         -- R114, R124: no new operation is accepted
  resume : Bool          -- R116: resume at the next boundary
  noRest : Bool          -- R140: stays out of REST
  shutStep : Nat         -- R124: the step under way, 0 none
  shutAt : Nat           -- R124: boundary at which that step began
  runRecorded : Bool     -- R138
  pendStandby : Bool     -- R138: STANDBY asked in REST
  pendQuiesce : Bool     -- R140: QUIESCE asked in REST
  wake : Bool            -- R119: a wake event has come
  wakeAt : Nat           -- OWN: boundary count at the wake event
  wdogArmed : Bool       -- R135
  wdogJoin : Bool        -- OWN: R142: the watchdog was armed when the reset under way asserted, and may act with it
  softUsb : Bool         -- R187: a USB soft reset waits
  pendRun : Bool         -- R108: the furrows start at the next boundary
  started : Bool         -- OWN: the furrows have started since reset
  blkReq : BitVec 10     -- R144
  blkHeld : BitVec 10    -- R132: blocks held in reset for this tick
  blkRefused : BitVec 10 -- R145
  vioOk : Bool           -- R77: VIO_C1 above its monitor threshold
  vioMode : Option Bool  -- R68: some true is 5.0 V operation
  vioAt : Option Nat     -- R77: it fell while the device ran; boundary count when it rose again
  c1Reset : Bool         -- R77: the C1 bank is in its reset state
  vconnIn : Bool         -- R78: VCONN_IN present
  balls : Bool           -- R80: the safe state has been applied
  deriving DecidableEq, Repr

/-- The standby domain (R104, R141, R146). -/
structure Stby where
  present : Bool         -- R104: VSTBY has not fallen
  bkp : Store W          -- R146
  sram : Store W         -- R104
  por : Bool             -- R141
  brownout : Bool
  pin : Bool
  soft : Bool
  wdog : Bool
  shutdown : Bool
  usbrst : Bool
  last : Nat             -- R141 LAST
  brownRail : Nat        -- R141 BROWN_RAIL
  shutSteps : BitVec 7   -- R141 SHUT_STEPS
  incomplete : Bool      -- R141 SHUTDOWN_INCOMPLETE
  lost : Bool            -- R143 STBY_LOST
  restBlocked : Bool     -- R143 REST_BLOCKED
  prev : List (Bool × Nat × W) -- OWN: R105: the words the last frame or request wrote (SRAM, or a backup register) with their old values, newest first
  wdogCount : Nat        -- R104, R135: the tick watchdog's counter (0 at each boundary)
  deriving DecidableEq, Repr

/-! ### Tally port, windows, USB access (R147 to R216, R638) -/

/-- Outcome codes (R153). -/
inductive Outc where
  | ok | notReady | crcBad | malformed | unmapped | denied | locked | none | poison
  deriving DecidableEq, Repr

/-- OWN: what the device sent on TDO in the last frame (R149, R151, R156). -/
structure Tdo where
  status : Byte
  data : W
  trailer : Byte
  deriving DecidableEq, Repr

structure Tally where
  lcrc : Bool            -- R199
  last : Outc            -- R200
  crcErr : Bool
  malformed : Bool
  unmapped : Bool
  notReady : Bool
  denied : Bool
  lockedWr : Bool
  poisonRd : Bool
  crcCnt : Nat           -- saturating at 255
  malCnt : Nat
  hold : Bool            -- R160
  holdMsg : Bool         -- R159: the message that the held read captured is still the oldest in the queue
  tdo : Tdo              -- OWN
  deriving DecidableEq, Repr

/-- What an indirect read finds: data, whether the address is mapped, and the poison outcome (R638). -/
structure Rd where
  data : W
  mapped : Bool
  poison : Bool
  deriving DecidableEq, Repr

/-- One path's indirect window (R169 to R173, R201). -/
structure Win where
  iwa : BitVec 24
  step : BitVec 8
  dir : Bool
  page : Bool
  rdy : Bool
  buf : Rd
  wbuf : Option (Nat × W)
  deriving DecidableEq, Repr

/-- How the headgate answered the last transaction or request; `badCrc` is data sent with its CRC16 inverted (R288). -/
inductive Hs where
  | none | ack | nak | stall | nyet | err | badCrc
  deriving DecidableEq, Repr

/-- OWN: the last USB answer: handshake and data words or bytes. -/
structure Resp where
  hs : Hs
  words : List W
  bytes : List Byte
  deriving DecidableEq, Repr

structure UsbAcc where
  mode : BitVec 2        -- R216
  owner : Nat            -- R216 CFG_OWNER
  active : Bool
  denied : Bool
  wrote : Bool
  last : Outc
  resp : Resp            -- OWN
  deriving DecidableEq, Repr

/-! ### Configuration (R202, R203, R217 to R255) -/

/-- A CRC pass under way: ticks read, running CRC, committed from beginning on, and whether it is a checking
pass (R228, R229, R232). -/
structure Pass where
  k : Nat
  crc : W
  clean : Bool
  checking : Bool
  deriving DecidableEq, Repr

/-- A commit's joint step still to be applied: 0 the QUIESCE step, 1 the fence step, 2 the STARTUP step; the
boundary of acceptance; the plots it applies; whether it makes an epoch step (R237, R238). -/
inductive StepKind where
  | quiesce | fence | startup
  deriving DecidableEq, Repr

structure CommitStep where
  kind : StepKind
  at_ : Nat
  plots : List Nat
  makes : Bool
  deriving DecidableEq, Repr

structure Cfg where
  space : Store W        -- R227
  ref : W                -- R203
  crc : W                -- R203
  epoch : W              -- R203
  isOpen : Bool          -- R202
  commitOk : Bool
  commitFail : Bool
  expired : Bool
  mismatch : Bool
  checkFail : Bool
  checkCode : Nat        -- R202
  failPlot : Nat         -- R255
  openWait : Bool        -- R255
  checking : Bool        -- R255
  commitAt : Bool        -- R232: COMMIT written, the pass has not started
  window : Nat           -- R231: ticks of the open window passed
  winRun : Bool          -- R231: past the first boundary after opening
  pass : Option Pass     -- R228
  touched : List (Nat × W) -- R228: words written in this tick, with the value before
  auto : Bool            -- R226: the check under way is an autoload
  loaded : Bool          -- OWN: the autoload of this start-up has been made (R226)
  targetEpoch : W        -- R255
  pend : List Nat        -- R255 PEND masks
  stuck : List Nat       -- R255 STUCK masks
  load : Option (Nat × Store W × Nat) -- R241: plot being loaded, its new working copy, the boundary
  step : Option CommitStep -- R237
  hwTable : Store W      -- R217: the Hayward's working copy
  hwMode : Bool          -- R205, R235: MODE as written while open
  route : Store W        -- R217: the routing matrix's working copy
  devScope : Store W     -- R218: device-scope words as last applied
  routeOn : Bool         -- R109: a first commit was applied
  fenceList : List Nat   -- R204
  fPending : Bool
  fApplied : Bool
  fRefused : Bool
  fReason : Nat
  fForCommit : Bool      -- R245: requested while the configuration was open
  fAccepted : Bool       -- R245: an accepted commit is to apply it
  fPaused : Bool         -- R245, R246: its plots are in their paused tick
  fAt : Nat              -- boundary at which it was requested, accepted or paused
  deriving DecidableEq, Repr

/-! ### Seed store, option bytes, fuse (R110 to R112, R130, R131, R211, R212, R215, R219, R220, R603 to R605) -/

/-- State of a seed-store word's check bits. -/
inductive Ecc where
  | good | single | double
  deriving DecidableEq, Repr

structure NvmWord where
  data : W
  ecc : Ecc
  deriving DecidableEq, Repr

inductive NvmOp where
  | write | erase
  deriving DecidableEq, Repr

structure Nvm where
  store : Store NvmWord  -- R219; unlisted words are erased
  addr : BitVec 14       -- R211
  data : W
  op : Option (NvmOp × Nat × W) -- R212: the command under way with its address and word
  done : Bool
  err : Bool
  keyErr : Bool
  refused : Bool
  ecc1 : Bool
  ecc2 : Bool
  opt : Store W          -- R220: the option-byte shadow
  seedCopyHeld : Bool    -- R546
  fBlown : Bool          -- R215
  fTorn : Bool           -- R605: the two margins of the fuse disagree
  fArmed : Bool
  fBusy : Bool
  fFail : Bool
  fRefused : Bool
  fArmedAt : Nat         -- R603
  fCut : Bool            -- R605: a reset waits for the blow pulse
  deriving DecidableEq, Repr

/-! ### Ledger and commons (R46 to R50, R57, R58, R399, R590 to R592, R639) -/

inductive EKind where
  | split | culvert | prefetch | mirrored
  deriving DecidableEq, Repr

/-- Close reasons, by code (R345). -/
inductive Close where
  | ok | errFar | timeout | cancelled | cancelledLate | errUncertain | poisoned
  deriving DecidableEq, Repr

/-- A ledger entry as R399 shows it. `openAt` is the boundary count at opening (OWN). -/
structure Entry where
  opn : Bool
  close : Close
  cls : TClass
  kind : EKind
  owner : Nat
  req : Nat
  culv : Nat
  tag : Nat
  openTick : BitVec 24
  target : BitVec 18
  attempts : Nat
  done : Nat
  limit : Nat            -- R388, R276: ticks of its timeout
  openAt : Nat
  emitted : Bool         -- R2: emitted on the target's bus
  late : Bool            -- R6: its Spate-late event is raised
  deriving DecidableEq, Repr

/-- A commons word: data, poison mark, uncorrected errors in its bits (R50, R58). -/
structure CWord where
  data : W
  poison : Bool
  err : Ecc
  deriving DecidableEq, Repr

structure Mem where
  ledger : Store Entry
  lastId : Nat           -- R639
  lastRes : Nat
  commons : Store CWord
  scrubAt : Nat          -- R50: next word the scrubber reads
  corrected : Nat        -- R50: single-bit errors corrected; no register shows the count
  deriving DecidableEq, Repr

/-! ### Sluices (R302 to R341) -/

/-- A word and its tag without PAR; `parBad` when the stored PAR does not match (R305, R306, R334). -/
structure SWord where
  data : W
  pos : Nat
  vb : Nat
  poison : Bool
  idle : Bool
  under : Bool
  trunc : Bool
  peer : Nat
  parBad : Bool
  deriving DecidableEq, Repr

structure SPkt where
  cls : TClass
  words : List SWord
  deriving DecidableEq, Repr

structure SClaim where
  cls : TClass
  peer : Nat
  len : Nat
  deriving DecidableEq, Repr

/-- The open packet: its claim, the words written, boundaries without a word (R309, R332), and the culvert
words of a packet that a packing sluice packs, each with its poison mark and whether its PAR is stored inverted (R323,
R334). -/
structure SOpen where
  claim : SClaim
  words : List SWord
  stale : Nat
  part : List (BitVec 12 × Bool × Bool)
  deriving DecidableEq, Repr

/-- A write as a producer gives it (R313, R316). -/
structure SWrite where
  data : W
  vb : Nat
  poison : Bool
  last : Bool
  deriving DecidableEq, Repr

structure Sluice where
  pkts : List SPkt       -- committed, oldest first
  partly : Bool          -- R321: the head packet is partly taken
  opn : Option SOpen
  claims : List SClaim   -- R310, oldest first
  staged : Nat           -- R318: words taken by the item under way
  stagedDrop : Nat       -- R321: drop-remainders the item under way has staged
  stagedWr : List SWrite -- R316: writes into sluice B the item under way has staged
  lastWord : Option SWord -- R326
  held : Bool            -- R338
  rewinds : BitVec 8
  stales : BitVec 8
  underruns : BitVec 8
  drops : BitVec 8
  out : Option SWord     -- OWN: the word the last TAKE or PEEK answered
  deriving DecidableEq, Repr

/-! ### Hub, ports, splits, rack function (R256 to R301, R551, R552) -/

/-- USTATE (R264). -/
inductive UState where
  | poweredOff | disconnected | disabled | enabled | suspended | resuming | reset | error
  deriving DecidableEq, Repr

/-- The port actions a warden begins at the next boundary (R258). -/
inductive PAction where
  | powerOn | powerOff | reset | suspend | resume | disable | test (mode : Nat)
  deriving DecidableEq, Repr

structure HubPort where
  st : UState
  speed : Speed          -- R300
  cConn : Bool           -- R263 change bits
  cEn : Bool
  cSusp : Bool
  cOc : Bool
  cRst : Bool
  act : List PAction     -- R258, in order of the requests
  deadline : Nat         -- R267: boundary at which a drive ends
  test : Nat             -- R263 PORT_TEST mode, 0 none
  devResume : Bool       -- R267: resume recognised, waits for the boundary
  detect : List (Option Speed) -- R281: connects (with the speed) and disconnects that wait for the warden, oldest first
  resets : Nat
  errors : Nat
  retries : Nat
  npFail : Nat
  perMiss : Nat
  deriving DecidableEq, Repr

/-- A split transaction from start-split to closure (R274 to R277). -/
structure Split where
  id : Nat
  port : Nat
  dev : Nat
  ep : Nat
  dirIn : Bool
  periodic : Bool
  out : List Byte        -- R272: the OUT payload it buffers
  attempts : Nat
  onWire : Bool
  result : Option AttemptResult
  closed : Bool          -- its entry has closed, an attempt is still on the wire
  deriving DecidableEq, Repr

/-- A rack-function endpoint (R290): k of the carved mode, the packets in its buffers, the packets that wait for a
buffer, whether the words that come continue a request that was refused (R350, R352), and halt. -/
structure FEp where
  k : Nat
  pkts : List (List W)
  wait : List (List W)
  drop : Bool            -- R350: the words at its head continue a request already rejected
  halted : Bool
  deriving DecidableEq, Repr

structure Hub where
  speed : Nat            -- R301 SPEED
  vbus : Bool
  pullup : Bool
  susp : Bool
  configured : Bool
  addr : BitVec 7
  rwake : Bool
  mtt : Bool
  fConfigured : Bool
  fAddr : BitVec 7
  fRwake : Bool
  fSusp : Bool
  busResets : Nat        -- saturating
  suspends : Nat
  susAt : Nat            -- R117, R282: boundary of the suspend
  wakeCond : Bool        -- R281: a hub wake condition stands
  driveK : Bool          -- R282
  driveAt : Nat          -- R282: boundary at which it began
  ports : List HubPort   -- 17
  splits : List Split
  halted : List Nat      -- R279: ports whose TT is stopped
  ttReset : List Nat     -- R279: ports whose TT is back in its initial state at the next boundary
  eps : Store FEp        -- by endpoint + 16 for IN
  ring : List W          -- R551
  ringLost : Bool
  ringSeq : BitVec 8
  ringOut : Option (Nat × List W) -- R552: unacknowledged packet and its message count
  ringAlert : BitVec 16  -- R552: ALERT of the last packet acknowledged
  deriving DecidableEq, Repr

/-! ### Culverts (R342 to R399) -/

inductive OpKind where
  | read | write | rmw | xfer | prefetch | timed
  deriving DecidableEq, Repr

/-- Where an operation stands (R354, R391). -/
inductive OpStat where
  | waiting | between | onWire
  deriving DecidableEq, Repr

structure COp where
  id : Nat               -- ledger ID
  culv : Nat
  kind : OpKind
  req : Nat              -- requester's peer code
  ep : Nat               -- its endpoint
  tag : Nat
  cls : TClass
  idem : Bool            -- R347: IDEM of an XFER, NOPF of a READ
  chain : Nat            -- R376: 0 no chain
  unit : Nat             -- R347
  addr : Nat             -- C1 address or station
  count : Nat            -- units, or prefetch words
  data : List W          -- units to write, or the RMW masks
  tx : List Byte
  rxLen : Nat
  got : List (BitVec 12) -- culvert words read
  done : Nat             -- culvert words done
  reply : List Byte
  attempts : Nat
  stat : OpStat
  fail : Nat             -- DETAIL of the last failed attempt, 0 none
  frame : Nat            -- R375: frames of this attempt sent
  closed : Bool          -- entry closed, the wire transfer runs on (R388, R391)
  aux : Nat              -- quiet range of a prefetch; stream and index of a timed READ
  fwdId : Nat            -- R418: follower's ledger ID + 1, 0 when not forwarded
  cancel : Bool          -- R391: cancelled in a burst, closes when the burst ends
  mute : Bool            -- R392: its endpoint was cleared, no result returns
  dueTick : Nat          -- R445: boundary count and cycle at which a timed READ fell due
  dueCyc : Nat
  late : Bool            -- R457: its C1_AS_N fell more than LATE_MAX cycles late
  fed : Bool             -- R436, R640: an item of its class in the CULV plot has handed it to the controller
  poison : Bool          -- R345: its data carry a poison mark
  runsOn : Bool          -- R391: cancelled inside a chain that has begun, it still runs to its end
  deriving DecidableEq, Repr

structure Sem where
  holder : Nat           -- peer code
  ep : Nat
  since : Nat            -- boundary
  base : Nat
  len1 : Nat             -- LEN - 1
  partner : Bool         -- R417: a follower requester
  deriving DecidableEq, Repr

/-- The C1 bus as the controller sees it (R357 to R367). -/
structure C1Bus where
  held : Bool            -- a tenure
  owed : Bool            -- R365: grant taken, no C1_AS_N fall yet
  lockOwn : Bool
  lockForeign : Bool
  granting : Bool        -- arbiter drives C1_BG_OUT_N low
  foreignLast : Bool     -- R363: the last tenure was foreign
  phases : Nat           -- R366: data phases of this tenure
  driven : List (BitVec 12) -- OWN: the words the last burst drove on C1_D0 to C1_D11 (R357, R377)
  deriving DecidableEq, Repr

/-- A serial line (R369 to R371). -/
inductive SerSt where
  | idle | sending | waiting | spacing
  deriving DecidableEq, Repr

structure Culv where
  ops : List COp         -- in order of acceptance
  sems : Store Sem
  bufs : Store (Nat × List (BitVec 12) × Nat) -- R382: range r, first word, words, boundary of filling
  pfWant : Store Nat     -- R382: ranges whose READ closed OK, with the next word to read
  pfBuf : List Nat       -- R385: ranges that hold their parcels
  chainNow : Nat         -- R377: the locked chain on the wire, 0 none
  ser : SerSt
  evt : BitVec 8         -- R396 word 513
  okCnt : BitVec 16
  failCnt : BitVec 16
  retries : BitVec 8
  nullCyc : BitVec 8
  pfHits : BitVec 8
  yields : BitVec 8
  lastFar : BitVec 18
  farDetail : Nat
  safe : Bool            -- R557
  deriving DecidableEq, Repr

structure Culvs where
  c1 : Culv
  c2 : Culv
  c3 : Culv
  bus : C1Bus
  chains : Nat           -- OWN: last chain number given
  latn : Byte            -- R397: levels of LATN0-7
  pfail : Bool           -- level of PFAIL_IN
  latnEdge : BitVec 9    -- edge flags, PFAIL_IN at bit 8
  deriving DecidableEq, Repr

/-! ### Tandem (R400 to R435) -/

inductive TandSt where
  | off | listen | follower | keeper | fenced
  deriving DecidableEq, Repr

/-- What a sequenced frame carries (R408). -/
inductive TFrame where
  | mirror (recs : List (W × W))
  | fwdReq (id : Nat) (ws : List W)
  | fwdRes (id : Nat) (ws : List W)
  | syncBegin | syncEnd (n : Nat) | syncAck (n : Nat) | handover
  deriving DecidableEq, Repr

/-- A mirrored entry: its record's two words (R417). -/
structure MEntry where
  id : Nat
  lid : Option Nat       -- R416: the follower's ledger ID of KIND 3
  partner : Bool
  issued : Bool
  w0 : W
  w1 : W
  deriving DecidableEq, Repr

structure Tand where
  st : TandSt
  linkUp : Bool
  mirrored : Bool
  hbSilent : Nat
  linkSilent : Nat
  evt : BitVec 8         -- R435 word 521
  crcErr : BitVec 8
  retx : BitVec 8
  dups : BitVec 8
  takeovers : BitVec 8
  txSeq : BitVec 16
  rxSeq : BitVec 16
  rxAny : Bool           -- a sequenced frame was accepted since reset (log 9)
  unacked : List (BitVec 16 × Nat × TFrame) -- R410
  waiting : List TFrame  -- R410: frames held back by the limit of 32
  beatTick : Bool        -- R415: a valid BEAT in this tick
  beatRun : Nat
  partnerRole : Nat      -- role of the last valid BEAT
  heardKeeper : Bool     -- R414
  startAt : Nat
  beatMiss : Nat         -- R426: boundaries without the beat item
  beatSent : Bool
  txOut : List (List Byte) -- OWN: the frames sent in this tick, as bytes between K27.7 and K29.7 (R404, R405)
  hbPulse : Bool         -- R411: HB is pulled low for 480 cycles in this tick
  handoverRx : Bool
  mirror : List MEntry
  msems : Store Sem      -- mirror semaphore table
  sent : List (W × W)    -- R416: the records the partner has been sent, as last sent
  syncRx : Nat
  syncTx : Nat
  syncing : Bool         -- R429: from SYNC_BEGIN to the SYNC_ACK
  toSend : List (Nat × TClass × List W) -- R421: forwarded requests not yet sent, with their class
  fwd : List (Nat × List W × Nat) -- R418: forwarded requests sent: ledger ID (0x4000 none), words, endpoint
  held : List (Nat × Nat) -- R380: semaphores the rack function holds at the keeper, with the endpoint
  rxWait : List (Nat × TClass × List W) -- R57, R114, R433: the partner's requests that wait, with their class
  deriving DecidableEq, Repr

/-! ### Cadence (R442 to R461) -/

/-- Where a sample stands (R457): not taken, its READ under way, or with its value and reason. -/
inductive SampSt where
  | missed | waiting | valid | late | failed | sense
  deriving DecidableEq, Repr

/-- A sample of a tick: its value and where it stands. -/
structure Samp where
  value : BitVec 12
  st : SampSt
  deriving DecidableEq, Repr

/-- The samples of one tick: waiting for their packet, built into one, or with the FUNC plot (R448 to R450). -/
structure STick where
  tick : W
  first : W
  rate : W
  hold : Bool
  unlocked : Bool
  clamped : Bool
  at_ : Nat
  samps : List Samp
  built : Bool
  here : Bool
  deriving DecidableEq, Repr

structure Stream where
  pos : Nat              -- P in 1/65,536 sample
  rate : Nat             -- R_j
  adj : W                -- ADJ as last set
  adjNew : Option W      -- R453: takes effect at the next boundary
  clamped : Bool
  running : Bool         -- R442: started
  paramErr : Bool
  ticks : List STick     -- oldest first
  staged : Nat           -- R445: 1 + boundary count of the tick whose READs are staged
  stagedIds : List (Nat × Option Nat) -- R445: sample index and ledger ID of each staged READ

  due : Nat              -- R443: samples of the running tick that have fallen due
  lastSense : BitVec 12  -- R477: the sample before, which a dropped set repeats
  gap : Bool
  late : BitVec 16
  failed : BitVec 16
  missed : BitVec 16
  senseInv : BitVec 16
  lost : BitVec 16
  packets : BitVec 16
  deriving DecidableEq, Repr

/-! ### Port power and sensing (R462 to R497, R587 to R589) -/

/-- PSTATE (R463). -/
inductive PState where
  | off | ramp | on | discharge
  deriving DecidableEq, Repr

/-- LATCH (R497). -/
inductive Latch where
  | none | ovp | ocp | rcp | openV | openI | slowOc | safe
  deriving DecidableEq, Repr

/-- One channel: last code and reason (R497), the two most recent valid samples (R479), the last sample with
the bias parity of its tick for the pair rule (R486, R488). -/
structure Chan where
  code : Nat
  reason : Nat
  recent : List Nat
  pair : Option (Nat × Bool)
  deriving DecidableEq, Repr

structure PPort where
  st : PState
  pendOn : Bool
  forceOff : Bool
  hostOn : Bool
  rail : Bool
  railBusy : Option (Bool × Nat) -- R480, R481: towards the high rail?, deadline
  hvSel : Bool           -- R463 HV_SELn
  ovpHv : Bool           -- R480, R481: OVP_THHV is armed
  latch : Latch
  classifying : Bool
  vOpen : Bool
  iOpen : Bool
  uv : Bool
  evt : BitVec 8         -- R497 word 66
  v : Chan
  i : Chan
  vMv : Nat
  iMa : Int
  trips : BitVec 8
  opens : BitVec 8
  rampFails : BitVec 8
  setDrops : BitVec 8
  tripTick : W
  reqs : List Bool       -- R467: requests waiting, oldest first
  tcReqs : List Bool     -- R509, R510: requests of the Type-C logic
  post : List (Nat × Bool) -- R486: usable samples after the trip
  ocRun : Nat            -- R490
  lowRun : Nat           -- R470
  slowRaised : Bool      -- R470
  safe : Bool            -- R492, R557: the Hayward holds the port's scope
  safeDue : Bool         -- R492: the switch is off, DISCHARGE waits for the warden
  marks : List (Nat × Nat × Nat) -- OWN: TICK_COUNT [11:0] and the reasons of the sets that wait (R477, R493)
  setAt : Nat            -- OWN: boundary count of the tick of the last set taken or dropped (R469, R493)
  tripCyc : Nat          -- OWN: instant of the last trip, 60,000 x boundary count + FCLK cycle (R486)
  since : Nat            -- boundary at which the state was entered
  deriving DecidableEq, Repr

structure Adc where
  z : Nat                -- R587: means of the correction in use, in 1/64 code
  r : Nat
  valid : Bool           -- R606 CAL_VALID
  trim : Bool            -- R606 CAL_TRIM
  fails : BitVec 8       -- R606 CAL_FAILS
  failRun : Nat
  zs : List Nat          -- raw codes of slot 32 in this window
  rs : List Nat
  zMean : Nat            -- R606
  rMean : Nat
  sets : List (Nat × List (BitVec 12)) -- OWN: sample sets whose claim waits, by plot (R474, R476)
  deriving DecidableEq, Repr

/-! ### Type-C and PD (R498 to R539) -/

/-- TCSTATE (R503). -/
inductive TcSt where
  | disabled | unattached | attachWait | attached | audio | debug | errorRecovery | ccFault
  deriving DecidableEq, Repr

/-- Partner pattern (R502); SINK with the CC ball that carries BMC (true: CC2). -/
inductive Pattern where
  | none | sink (cc2 : Bool) | audio | debug
  deriving DecidableEq, Repr

/-- The transmitter (R518 to R526): idle, SinkTx wait, waiting for the line, waiting for GoodCRC. -/
inductive PhySt where
  | idle | amsWait | pending | gcrcWait
  deriving DecidableEq, Repr

structure RxMsg where
  sop : Nat
  tick : BitVec 16
  bytes : List Byte
  deriving DecidableEq, Repr

structure TcPort where
  st : TcSt
  orient : Bool
  rpNow : Nat
  vconn : Bool
  want : Bool
  cc1 : CcLevel
  cc2 : CcLevel
  hrBusy : Bool
  sinkNg : Bool
  evt : BitVec 12        -- R538 PD_EVT
  pat : Pattern
  cnt : Nat              -- R504 count of the state's condition
  since : Nat
  rpReq : Option Nat     -- R506
  ovReq : Bool           -- R534: a CC ball was above 5.75 V; CC_FAULT at the next boundary
  recReq : Bool          -- R504: CMD ERROR_RECOVERY waits for the boundary
  txDesc : W             -- R537 M + 8
  txBytes : List W       -- M + 9 to M + 16
  phy : PhySt
  cancelled : Bool       -- R532: CANCEL after the preamble
  hrSend : Bool          -- R523: Hard Reset being sent
  crSend : Bool          -- R526
  bist : Bool            -- R521
  txResult : Nat
  txTries : Nat
  txSop : Nat
  txId : Nat
  txEp4 : Bool
  ep4 : List (Nat × Nat) -- R528: endpoint 4 requests under way: OP and TAG
  refuseWhy : Nat
  ids : List Nat         -- transmit MessageID counters of SOP, SOP', SOP''
  rxIds : List (Option Nat) -- stored receive MessageIDs
  rxSlots : List RxMsg   -- R537: the 8 receive slots; a freed slot keeps its words (log 12)
  rxCount : Nat          -- R539
  rxHead : Nat
  rxDrops : BitVec 8
  dups : BitVec 8
  txFails : BitVec 8
  retries : BitVec 8
  hrCount : BitVec 8
  rxCrcErr : BitVec 8
  hrAt : Option Nat      -- R525: boundary of the Hard Reset
  hrVconn : Bool         -- R525: VCONN was on
  hrRemoved : Bool       -- R525: step 1 is done
  offAt : Option Nat     -- R525: boundary of step 1, the power removal
  noGate : Bool          -- R535: shutdown step 3 has begun
  hrRail : Bool          -- R524: RAIL_5V due at the next boundary
  deriving DecidableEq, Repr

/-! ### Hayward (R540 to R577) -/

/-- An event as raised (R540 to R543). -/
structure Event where
  src : Nat
  kind : Nat
  addr : Nat
  deriving DecidableEq, Repr

/-- SCOPE (R556). -/
inductive Scope where
  | none | self | group | device
  deriving DecidableEq, Repr

/-- One source (R553, R562, R577). `hold` none while severe: until device reset. -/
structure SrcSt where
  severe : Bool
  stamps : List Nat      -- boundary counts of its counted events, newest first
  hold : Option Nat
  scope : Scope
  entries : BitVec 8
  deriving DecidableEq, Repr

structure Hay where
  mode : Bool            -- R206 MODE in effect
  injArm : Bool          -- R205
  fmin : BitVec 8        -- R205
  queue : List W         -- R550
  qovf : Bool            -- R206
  selfPar : Bool         -- R206
  safeDev : Bool         -- R206
  relReq : Bool          -- R569: a release waits for the boundary
  relRefused : Bool      -- R209
  hold : Bool            -- R208
  holdClr : Bool         -- R566: HOLD 0 written during MIN_RUN
  force : Bool           -- R208
  minRun : Bool          -- R208
  minLen : Nat           -- R565: FMIN of the assertion, in 50 us
  alertEn : BitVec 16    -- R210
  srcs : Store SrcSt
  raised : List Event    -- R547: raised, not yet latched
  deriving DecidableEq, Repr

/-! ### Boundary scan (R598 to R601) -/

inductive TapIr where
  | extest | idcode | sample | highz | clamp | ftap | bypass
  deriving DecidableEq, Repr

structure Tap where
  ir : TapIr
  shift : BitVec 177
  upd : BitVec 177
  deriving DecidableEq, Repr

/-! ### The whole state -/

structure State where
  tick : Tick
  plots : List Plot      -- 63
  field : Field
  pwr : Pwr
  stby : Stby
  tally : Tally
  tWin : Win
  uWin : Win
  usb : UsbAcc
  cfg : Cfg
  nvm : Nvm
  mem : Mem
  sluices : Store Sluice -- unlisted sluices are empty
  hub : Hub
  culvs : Culvs
  tand : Tand
  cads : List Stream     -- 8
  ports : List PPort     -- 16
  adc : Adc
  tcs : List TcPort      -- 4
  hay : Hay
  tap : Tap
  free : Nat             -- OWN: the counter of free values (log 3)
  pending : List Instr   -- the queue of commands
  deriving DecidableEq, Repr

/-! ### Reset values -/

def Tick.reset : Tick :=
  { st := .free, count := 0, now := 0, frame := 0, uframe := 0, sofMiss := false, restep := false, range := false,
    ovrAny := false, curTrim := 0, freeTrim := 0, toutMode := 0, holdLast := true, lastLocked := 0, stretch := none,
    pendSt := none, sofNow := none, sofNext := none, decided := false, endedStretch := false, inWin := 0,
    missRun := 0, rangeTicks := 0, tickOut := false }

def Plot.reset (p : Nat) : Plot :=
  { wc := [], furrow := p, shadowed := false, fenced := false, epoch := 0, lastUsed := 0, lastSpate := 0,
    peakUsed := 0, peakSpate := 0, ovrCnt := 0, spxCnt := 0, used := 0, spate := 0, running := none, ready := [],
    paused := false, seized := false, stranded := false, restart := false, reloadWc := false, parcels := [],
    zeroing := [] }

/-- R21: Pp on Fp, F63 fallow. -/
def Field.reset : Field :=
  { map := (List.range 63).map (fun f => ⟨f, .carrying⟩) ++ [⟨63, .fallow⟩], fallow := some 63, period := 0x10,
    halt := false, counter := 0, due := false, shadow := none, testAt := none, testWait := true, forceReq := none,
    failed := [], noSpare := false, lastTested := 0, lastPass := false, busy := false, swapDone := false,
    testFail := false, failedF := 0, pendFail := [], memReq := false, memRun := false, memDone := false,
    memFail := false, memAborted := false, failWord := 0, failValid := false, retired := [], testsPassed := 0,
    swaps := 0, lastSig := 0, shadowMis := 0, refuseWhy := 0 }

/-- Reset has been released and seeding is under way (R75, R106; log 4). -/
def Pwr.reset : Pwr :=
  { phase := .seeding, railsLow := [], rstN := true, porDone := true, seedBad := false, testmode := false, factory := false,
    restEn := false, reqQuiesce := false, stopNew := false, resume := false, noRest := false, shutStep := 0,
    shutAt := 0, runRecorded := false, pendStandby := false, pendQuiesce := false, wake := false, wakeAt := 0,
    wdogArmed := false, wdogJoin := false, softUsb := false, pendRun := false, started := false, blkReq := 0, blkHeld := 0, blkRefused := 0,
    vioOk := true, vioMode := none, vioAt := none, c1Reset := true, vconnIn := false, balls := false }

/-- R104, R141, R146: the values after loss of VSTBY (log 4). -/
def Stby.reset : Stby :=
  { present := true, bkp := [], sram := [], por := false, brownout := false, pin := false, soft := false,
    wdog := false, shutdown := false, usbrst := false, last := 0, brownRail := 0, shutSteps := 0,
    incomplete := false, lost := false, restBlocked := false, prev := [], wdogCount := 0 }

def Tally.reset : Tally :=
  { lcrc := false, last := .none, crcErr := false, malformed := false, unmapped := false, notReady := false,
    denied := false, lockedWr := false, poisonRd := false, crcCnt := 0, malCnt := 0, hold := false, holdMsg := false
    tdo := ⟨0xFF, 0, 0⟩ }

def Win.reset : Win :=
  { iwa := 0, step := 1, dir := false, page := false, rdy := false, buf := ⟨0, true, false⟩, wbuf := none }

def UsbAcc.reset : UsbAcc :=
  { mode := 0, owner := 0, active := false, denied := false, wrote := false, last := .none,
    resp := ⟨.none, [], []⟩ }

def Cfg.reset : Cfg :=
  { space := [], ref := 0, crc := 0, epoch := 0, isOpen := false, commitOk := false, commitFail := false,
    expired := false, mismatch := false, checkFail := false, checkCode := 0, failPlot := 63, openWait := false,
    checking := false, commitAt := false, window := 0, winRun := false, pass := none, touched := [], auto := false,
    loaded := false, targetEpoch := 0, pend := [], stuck := [], load := none, step := none, hwTable := [],
    hwMode := false, route := [], devScope := [], routeOn := false, fenceList := [], fPending := false,
    fApplied := false, fRefused := false, fReason := 0, fForCommit := false, fAccepted := false, fPaused := false,
    fAt := 0 }

/-- The seed store is erased, as in the part BLY-6416-B0-IB (R632; log 6). -/
def Nvm.reset : Nvm :=
  { store := [], addr := 0, data := 0, op := none, done := false, err := false, keyErr := false, refused := false,
    ecc1 := false, ecc2 := false, opt := [], seedCopyHeld := false, fBlown := false, fTorn := false,
    fArmed := false, fBusy := false, fFail := false, fRefused := false, fArmedAt := 0, fCut := false }

/-- R639: the first IDs handed out are 0x0000 and 0x3F00 (log 8). -/
def Mem.reset : Mem :=
  { ledger := [], lastId := 0x3EFF, lastRes := 0x3FFF, commons := [], scrubAt := 0, corrected := 0 }

def Sluice.empty : Sluice :=
  { pkts := [], partly := false, opn := none, claims := [], staged := 0, stagedDrop := 0, stagedWr := [], lastWord := none,
    held := false, rewinds := 0, stales := 0, underruns := 0, drops := 0, out := none }

def HubPort.reset : HubPort :=
  { st := .poweredOff, speed := .none, cConn := false, cEn := false, cSusp := false, cOc := false, cRst := false,
    act := [], deadline := 0, test := 0, devResume := false, detect := [], resets := 0, errors := 0,
    retries := 0, npFail := 0, perMiss := 0 }

/-- Port 17: PORT_POWER always reads 1 (R268). -/
def HubPort.reset17 : HubPort := { HubPort.reset with st := .disconnected }

def FEp.reset : FEp := { k := 0, pkts := [], wait := [], drop := false, halted := false }

def Hub.reset : Hub :=
  { speed := 0, vbus := false, pullup := false, susp := false, configured := false, addr := 0, rwake := false,
    mtt := false, fConfigured := false, fAddr := 0, fRwake := false, fSusp := false, busResets := 0, suspends := 0,
    susAt := 0, wakeCond := false, driveK := false, driveAt := 0, ports := List.replicate 16 HubPort.reset ++ [HubPort.reset17],
    splits := [], halted := [], ttReset := [], eps := [], ring := [], ringLost := false, ringSeq := 0, ringOut := none,
    ringAlert := 0 }

def Culv.reset : Culv :=
  { ops := [], sems := [], bufs := [], pfWant := [], pfBuf := [], chainNow := 0, ser := .idle, evt := 0, okCnt := 0, failCnt := 0, retries := 0, nullCyc := 0,
    pfHits := 0, yields := 0, lastFar := 0, farDetail := 0, safe := false }

def C1Bus.reset : C1Bus :=
  { held := false, owed := false, lockOwn := false, lockForeign := false, granting := false,
    foreignLast := false, phases := 0, driven := [] }

/-- The attention inputs rest high on their weak pull-ups (R79; log 5). -/
def Culvs.reset : Culvs :=
  { c1 := Culv.reset, c2 := Culv.reset, c3 := Culv.reset, bus := C1Bus.reset, chains := 0, latn := 0xFF,
    pfail := true, latnEdge := 0 }

def Tand.reset : Tand :=
  { st := .off, linkUp := false, mirrored := false, hbSilent := 0, linkSilent := 0, evt := 0, crcErr := 0, retx := 0,
    dups := 0, takeovers := 0, txSeq := 0, rxSeq := 0, rxAny := false, unacked := [], waiting := [],
    beatTick := false, beatRun := 0, partnerRole := 0, heardKeeper := false, startAt := 0, beatMiss := 0,
    beatSent := false, txOut := [], hbPulse := false, handoverRx := false, mirror := [], msems := [], sent := [], syncRx := 0,
    syncTx := 0, syncing := false, toSend := [], fwd := [], held := [], rxWait := [] }

def Stream.reset : Stream :=
  { pos := 0, rate := 0, adj := 0, adjNew := none, clamped := false, running := false, paramErr := false, ticks := [], staged := 0,
    stagedIds := [], due := 0, lastSense := 0, gap := false, late := 0, failed := 0, missed := 0, senseInv := 0, lost := 0, packets := 0 }

def Chan.reset : Chan := { code := 0, reason := 0, recent := [], pair := none }

def PPort.reset : PPort :=
  { st := .off, pendOn := false, forceOff := false, hostOn := false, rail := false, railBusy := none, hvSel := false,
    ovpHv := false, latch := .none, classifying := false, vOpen := false, iOpen := false, uv := false,
    evt := 0, v := Chan.reset, i := Chan.reset, vMv := 0, iMa := 0, trips := 0, opens := 0, rampFails := 0,
    setDrops := 0, tripTick := 0, reqs := [], tcReqs := [], post := [], ocRun := 0, lowRun := 0, slowRaised := false,
    safe := false, safeDue := false, marks := [], setAt := 0, tripCyc := 0, since := 0 }

/-- R589: the nominal codes stand for the factory correction (log 5). -/
def Adc.reset : Adc :=
  { z := 4096, r := 218432, valid := true, trim := true, fails := 0, failRun := 0, zs := [], rs := [], zMean := 0,
    rMean := 0, sets := [] }

def TcPort.reset : TcPort :=
  { st := .disabled, orient := false, rpNow := 0, vconn := false, want := false, cc1 := .open, cc2 := .open,
    hrBusy := false, sinkNg := false, evt := 0, pat := .none, cnt := 0, since := 0, rpReq := none, ovReq := false, recReq := false,
    txDesc := 0, txBytes := List.replicate 8 0, phy := .idle, cancelled := false, hrSend := false, crSend := false,
    bist := false, txResult := 0, txTries := 0, txSop := 0, txId := 0, txEp4 := false, ep4 := [],
    refuseWhy := 0, ids := [0, 0, 0], rxIds := [none, none, none],
    rxSlots := List.replicate 8 ⟨0, 0, []⟩, rxCount := 0, rxHead := 0, rxDrops := 0, dups := 0,
    txFails := 0, retries := 0, hrCount := 0, rxCrcErr := 0, hrAt := none, hrVconn := false, hrRemoved := false,
    offAt := none, noGate := false, hrRail := false }

def Hay.reset : Hay :=
  { mode := false, injArm := false, fmin := 0x14, queue := [], qovf := false, selfPar := false, safeDev := false,
    relReq := false, relRefused := false, hold := false, holdClr := false, force := false, minRun := false,
    minLen := 0, alertEn := 0, srcs := [], raised := [] }

/-- R598: the TAP's reset selects IDCODE. -/
def Tap.reset : Tap := { ir := .idcode, shift := 0, upd := 0 }

/-- The machine right after reset release: seeding (R106; log 4). -/
def State.reset : State :=
  { tick := Tick.reset, plots := (List.range 63).map Plot.reset, field := Field.reset, pwr := Pwr.reset,
    stby := Stby.reset, tally := Tally.reset, tWin := Win.reset, uWin := Win.reset, usb := UsbAcc.reset,
    cfg := Cfg.reset, nvm := Nvm.reset, mem := Mem.reset, sluices := [], hub := Hub.reset, culvs := Culvs.reset,
    tand := Tand.reset, cads := List.replicate 8 Stream.reset, ports := List.replicate 16 PPort.reset,
    adc := Adc.reset, tcs := List.replicate 4 TcPort.reset, hay := Hay.reset, tap := Tap.reset, free := 0,
    pending := [] }

end Sys2Proof.Machine
end

