-- ==== Sys2Proof/Machine/Ops.lean ====
section
/-!
DEFINITION. The named operations over the state: sparse tables, the modifiers of each part of the state, free
values, events raised towards the Hayward, the ledger, the commons and the parcels. Every later file reads and
writes the state through these.
-/

namespace Sys2Proof.Machine

/-! ### Sparse tables -/

/-- What address `a` holds; an unlisted address reads `d`. -/
def rdStore {α : Type} (d : α) : Store α → Nat → α
  | [], _ => d
  | (k, v) :: m, a => if k = a then v else if a < k then d else rdStore d m a

/-- Put `v` at `a`, keeping addresses rising; the default removes the entry. -/
def wrStore {α : Type} [DecidableEq α] (d : α) : Store α → Nat → α → Store α
  | [], a, v => if v = d then [] else [(a, v)]
  | (k, w) :: m, a, v =>
    if a < k then (if v = d then (k, w) :: m else (a, v) :: (k, w) :: m)
    else if k = a then (if v = d then m else (a, v) :: m)
    else (k, w) :: wrStore d m a v

/-- The canonical form: addresses rising and above `lo`, no entry equal to the default. -/
def wfFrom {α : Type} [DecidableEq α] (d : α) : Nat → Store α → Bool
  | _, [] => true
  | lo, (k, v) :: m => decide (lo ≤ k) && decide (v ≠ d) && wfFrom d (k + 1) m

/-- The canonical form of a sparse table. -/
def wfStore {α : Type} [DecidableEq α] (d : α) (m : Store α) : Bool := wfFrom d 0 m

/-- The entries at addresses from `lo` on, below `hi`. -/
def sliceStore {α : Type} (m : Store α) (lo hi : Nat) : Store α :=
  m.filter (fun e => decide (lo ≤ e.1) && decide (e.1 < hi))

/-- Change every entry; one that becomes the default goes. -/
def mapStore {α : Type} [DecidableEq α] (d : α) (f : Nat → α → α) (m : Store α) : Store α :=
  (m.map (fun e => (e.1, f e.1 e.2))).filter (fun e => decide (e.2 ≠ d))

/-- A word of a sparse table of words, 0 where unlisted. -/
def rdW (m : Store W) (a : Nat) : W := rdStore 0 m a

/-- Put a word into a sparse table of words. -/
def wrW (m : Store W) (a : Nat) (v : W) : Store W := wrStore 0 m a v

/-! ### Lists by index -/

/-- Change the element at index `i`; nothing where there is none. -/
def updNth {α : Type} : List α → Nat → (α → α) → List α
  | [], _, _ => []
  | x :: l, 0, f => f x :: l
  | x :: l, i + 1, f => x :: updNth l i f

/-- Insert a number into an ascending list without repeats. -/
def insNat : Nat → List Nat → List Nat
  | a, [] => [a]
  | a, b :: l => if a < b then a :: b :: l else if a = b then b :: l else b :: insNat a l

/-! ### The parts of the state -/

def State.onTick (f : Tick → Tick) (s : State) : State := { s with tick := f s.tick }
def State.onField (f : Field → Field) (s : State) : State := { s with field := f s.field }
def State.onPwr (f : Pwr → Pwr) (s : State) : State := { s with pwr := f s.pwr }
def State.onStby (f : Stby → Stby) (s : State) : State := { s with stby := f s.stby }
def State.onTally (f : Tally → Tally) (s : State) : State := { s with tally := f s.tally }
def State.onTWin (f : Win → Win) (s : State) : State := { s with tWin := f s.tWin }
def State.onUWin (f : Win → Win) (s : State) : State := { s with uWin := f s.uWin }
def State.onUsb (f : UsbAcc → UsbAcc) (s : State) : State := { s with usb := f s.usb }
def State.onCfg (f : Cfg → Cfg) (s : State) : State := { s with cfg := f s.cfg }
def State.onNvm (f : Nvm → Nvm) (s : State) : State := { s with nvm := f s.nvm }
def State.onMem (f : Mem → Mem) (s : State) : State := { s with mem := f s.mem }
def State.onSluices (f : Store Sluice → Store Sluice) (s : State) : State := { s with sluices := f s.sluices }
def State.onHub (f : Hub → Hub) (s : State) : State := { s with hub := f s.hub }
def State.onCulvs (f : Culvs → Culvs) (s : State) : State := { s with culvs := f s.culvs }
def State.onTand (f : Tand → Tand) (s : State) : State := { s with tand := f s.tand }
def State.onCads (f : List Stream → List Stream) (s : State) : State := { s with cads := f s.cads }
def State.onAdc (f : Adc → Adc) (s : State) : State := { s with adc := f s.adc }
def State.onHay (f : Hay → Hay) (s : State) : State := { s with hay := f s.hay }
def State.onTap (f : Tap → Tap) (s : State) : State := { s with tap := f s.tap }
def State.onPlots (f : List Plot → List Plot) (s : State) : State := { s with plots := f s.plots }
def State.onPorts (f : List PPort → List PPort) (s : State) : State := { s with ports := f s.ports }
def State.onTcs (f : List TcPort → List TcPort) (s : State) : State := { s with tcs := f s.tcs }

/-- The command's effect where its situation holds; elsewhere the happening cannot occur and nothing changes
(log 2). -/
def onlyIf (c : Bool) (f : State → State) (s : State) : State := if c then f s else s

/-- A step that always goes on. -/
def goOn (s : State) : Res State := .next s

def State.plot (s : State) (p : Nat) : Plot := s.plots.getD p (Plot.reset p)
def State.onPlot (p : Nat) (f : Plot → Plot) (s : State) : State := s.onPlots (fun l => updNth l p f)
def State.port (s : State) (n : Nat) : PPort := s.ports.getD n PPort.reset
def State.onPort (n : Nat) (f : PPort → PPort) (s : State) : State := s.onPorts (fun l => updNth l n f)
def State.tc (s : State) (t : Nat) : TcPort := s.tcs.getD t TcPort.reset
def State.onTc (t : Nat) (f : TcPort → TcPort) (s : State) : State := s.onTcs (fun l => updNth l t f)
def State.cad (s : State) (k : Nat) : Stream := s.cads.getD k Stream.reset
def State.onCad (k : Nat) (f : Stream → Stream) (s : State) : State := s.onCads (fun l => updNth l k f)
def State.hubPort (s : State) (n : Nat) : HubPort := s.hub.ports.getD n HubPort.reset
def State.onHubPort (n : Nat) (f : HubPort → HubPort) (s : State) : State :=
  s.onHub (fun h => { h with ports := updNth h.ports n f })
def State.sluice (s : State) (i : Nat) : Sluice := rdStore Sluice.empty s.sluices i
def State.onSluice (i : Nat) (f : Sluice → Sluice) (s : State) : State :=
  s.onSluices (fun m => wrStore Sluice.empty m i (f (rdStore Sluice.empty m i)))
def State.ep (s : State) (e : Nat) : FEp := rdStore FEp.reset s.hub.eps e
def State.onEp (e : Nat) (f : FEp → FEp) (s : State) : State :=
  s.onHub (fun h => { h with eps := wrStore FEp.reset h.eps e (f (rdStore FEp.reset h.eps e)) })
def State.culv (s : State) (c : Nat) : Culv :=
  if c = 0 then s.culvs.c1 else if c = 1 then s.culvs.c2 else s.culvs.c3
def State.onCulv (c : Nat) (f : Culv → Culv) (s : State) : State :=
  s.onCulvs (fun k => if c = 0 then { k with c1 := f k.c1 }
    else if c = 1 then { k with c2 := f k.c2 } else { k with c3 := f k.c3 })
def State.onBus (f : C1Bus → C1Bus) (s : State) : State := s.onCulvs (fun k => { k with bus := f k.bus })
def State.win (s : State) : Path → Win
  | .tally => s.tWin
  | .usb => s.uWin
def State.onWin : Path → (Win → Win) → State → State
  | .tally, f, s => s.onTWin f
  | .usb, f, s => s.onUWin f

/-- Apply `f` for each element, first to last. -/
def forEach {α : Type} (l : List α) (f : α → State → State) (s : State) : State :=
  l.foldl (fun s a => f a s) s

/-! ### Free values (log 3) -/

/-- The state after one free value has been taken. -/
def State.took (s : State) : State := { s with free := s.free + 1 }

/-! ### Power state -/

/-- Plots, wardens and the schedule run (R114, R115): RUN, QUIESCE and shutdown before step 6. -/
def fieldRuns (s : State) : Bool :=
  s.pwr.phase = .run || s.pwr.phase = .quiesce
    || (s.pwr.phase = .shutdown && s.pwr.started && decide (s.pwr.shutStep < 6))

/-- The culvert buses may be driven: shutdown step 4 releases them (R124). -/
def busLive (s : State) : Bool := fieldRuns s && !(s.pwr.phase = .shutdown && decide (4 ≤ s.pwr.shutStep))

/-- The FCLK domain is released: registers and the Hayward work (R102, R571). -/
def clocked (s : State) : Bool :=
  s.pwr.phase = .run || s.pwr.phase = .quiesce || s.pwr.phase = .shutdown || s.pwr.phase = .startup
    || s.pwr.phase = .rest || s.pwr.phase = .seedFail

/-- New operations are accepted (R114, R124). -/
def accepting (s : State) : Bool := s.pwr.phase = .run && !s.pwr.stopNew

/-! ### Events towards the Hayward (R540, R543, R547) -/

/-- Insert an event behind those raised before; events of one moment stand in ascending source code (R547). -/
def raise (e : Event) (s : State) : State := s.onHay (fun h => { h with raised := h.raised ++ [e] })

/-- Source code of plot Pp (R541). -/
def srcPlot (p : Nat) : Nat := p + 1
/-- Source code of port DPn, `n` counted from 0 (R541). -/
def srcPort (n : Nat) : Nat := 0x41 + n
/-- Raise a kind from plot Pp. -/
def raisePlot (p kind addr : Nat) : State → State := raise ⟨srcPlot p, kind, addr⟩
/-- Raise a kind from a port; the address is its number (R542). -/
def raisePort (n kind : Nat) : State → State := raise ⟨srcPort n, kind, n + 1⟩

/-! ### Ready items (R438, R640) -/

/-- Work of an item kind is ready in plot Pp, behind what was ready before; each piece of work stands once. -/
def readyItem (p kind ref : Nat) : State → State :=
  State.onPlot p (fun q => if q.ready.contains ⟨kind, ref⟩ then q else { q with ready := q.ready ++ [⟨kind, ref⟩] })

/-- What the items of a FUNC plot are about, beside the ledger IDs of requests: the IN endpoint e, and a stream packet that
has reached the plot (R449). -/
def epRef (e : Nat) : Nat := 0x8000 + e
def streamRef : Nat := 0x8100

/-! ### Cycles of items (R42) -/

/-- n more cycles of an item of a class count in its plot. -/
def addCycles (cls : TClass) (n : Nat) (q : Plot) : Plot :=
  { q with used := q.used + n, spate := if cls = .spate then q.spate + n else q.spate }

/-- The item of Pp is stopped inside a tick and rolled back; what it ran counts. How far it came is open (log 3). -/
def stopItem (p : Nat) (s : State) : State :=
  match (s.plot p).running with
  | none => s
  | some r =>
    (s.onPlot p (fun q =>
      addCycles r.cls (min (Config.ranCycles s.free).toNat (30000 - r.start)) { q with running := none })).took

/-! ### USB answers -/

def answer (hs : Hs) (words : List W) (bytes : List Byte) (s : State) : State :=
  s.onUsb (fun u => { u with resp := ⟨hs, words, bytes⟩ })
def stall (s : State) : State := answer .stall [] [] s
def ack (s : State) : State := answer .ack [] [] s
def nak (s : State) : State := answer .nak [] [] s

/-! ### Ledger (R48, R57, R399, R639) -/

/-- An entry no operation has used. -/
def noEntry : Entry :=
  { opn := false, close := .ok, cls := .spate, kind := .split, owner := 0, req := 0, culv := 0, tag := 0, openTick := 0,
    target := 0, attempts := 0, done := 0, limit := 0, openAt := 0, emitted := false, late := false }

def State.entry (s : State) (i : Nat) : Entry := rdStore noEntry s.mem.ledger i
def State.onEntry (i : Nat) (f : Entry → Entry) (s : State) : State :=
  s.onMem (fun m => { m with ledger := wrStore noEntry m.ledger i (f (rdStore noEntry m.ledger i)) })

/-- The open entries, with their IDs. -/
def openEntries (s : State) : List (Nat × Entry) := s.mem.ledger.filter (fun e => e.2.opn)

/-- IDs outside the reserve that plot Pp holds (R223 LEDGER_CAP). -/
def heldIds (s : State) (p : Nat) : Nat :=
  ((openEntries s).filter (fun e => e.2.owner = p && e.1 < 0x3F00 && e.2.kind ≠ .mirrored)).length

/-- The first free ID above `last` in the round [lo, lo + n): by the open IDs of that round, so that the search
takes no more turns than IDs are open (R639). -/
def nextId (opn : List Nat) (lo n last : Nat) : Nat → Option Nat
  | 0 => none
  | fuel + 1 =>
    let i := lo + (last - lo + 1) % n
    if opn.contains i then nextId opn lo n i fuel else some i

/-- The next ID of the ordinary round. -/
def nextOrdinary (s : State) : Option Nat :=
  let o := ((openEntries s).map Prod.fst).filter (· < 0x3F00)
  nextId o 0 0x3F00 s.mem.lastId (min (o.length + 1) 0x3F00)

/-- The next ID of the Spate reserve (R48). -/
def nextReserve (s : State) : Option Nat :=
  let o := ((openEntries s).map Prod.fst).filter (0x3F00 ≤ ·)
  nextId o 0x3F00 0x100 s.mem.lastRes (min (o.length + 1) 0x100)

/-- R48, R57, R639: the ID a new operation of plot Pp receives under its cap, if any. -/
def allocId (s : State) (p cap : Nat) (cls : TClass) : Option Nat :=
  match (if heldIds s p < cap then nextOrdinary s else none) with
  | some i => some i
  | none => if cls = .spate then nextReserve s else none

/-- Open entry `i`, with the counters of its round (R399, R639). -/
def openEntry (i : Nat) (e : Entry) (s : State) : State :=
  s.onMem (fun m =>
    { m with
      ledger := wrStore noEntry m.ledger i
        { e with opn := true, openTick := s.tick.count.setWidth 24, openAt := s.tick.now }
      lastId := if i < 0x3F00 then i else m.lastId
      lastRes := if i < 0x3F00 then m.lastRes else i })

/-- Close entry `i` once (R277, R345): a later closing of a closed entry is discarded. -/
def closeEntry (i : Nat) (r : Close) (s : State) : State :=
  s.onEntry i (fun e => if e.opn then { e with opn := false, close := r } else e)

/-- R2: the operation of entry `i` has been emitted. -/
def emitted (i : Nat) (s : State) : State := s.onEntry i (fun e => if e.opn then { e with emitted := true } else e)

/-! ### Commons (R50, R58) and parcels -/

def zeroWord : CWord := ⟨0, false, .good⟩
def State.cword (s : State) (a : Nat) : CWord := rdStore zeroWord s.mem.commons a
def State.setCword (a : Nat) (w : CWord) (s : State) : State :=
  s.onMem (fun m => { m with commons := wrStore zeroWord m.commons a w })

/-- R58: a read that finds a double error in an unmarked word marks it and raises one COMMONS_DED event. -/
def readCommons (a : Nat) (s : State) : State :=
  let w := s.cword a
  if w.err = .double && !w.poison then
    raise ⟨0x63, 0x08, a⟩ (s.setCword a { w with poison := true })
  else s

/-- R50: a rewrite gives the word valid check bits and the mark that comes with the data. An armed injection
(R572) stores two check bits inverted instead and is spent by the caller. -/
def writeCommons (a : Nat) (v : W) (poison : Bool) (inj : Bool) (s : State) : State :=
  s.setCword a ⟨v, poison, if inj then .double else .good⟩

/-- R50: a single error of a word is corrected in place and counted. -/
def correctWord (a : Nat) (s : State) : State :=
  (s.setCword a { s.cword a with err := .good }).onMem (fun m => { m with corrected := m.corrected + 1 })

/-- R50: the scrubber on one word: a single error is corrected in place and counted, a double error marks an
unmarked word, a marked word is passed over. -/
def scrubWord (a : Nat) (s : State) : State :=
  let w := s.cword a
  if w.poison then s
  else match w.err with
    | .good => s
    | .single => correctWord a s
    | .double => readCommons a s

/-- Parcels that are not in the free pool: held, still being zero-filled, or retired (R292, R293, R592). -/
def usedParcels (s : State) : List Nat :=
  let l := s.plots.flatMap (fun p => p.parcels ++ p.zeroing)
  l ++ s.field.retired.filter (fun x => !l.contains x)

/-- How many parcels are in the free pool. -/
def freeParcels (s : State) : Nat := 4096 - (usedParcels s).length

/-- The parcel of the free pool that has k lower ones in it. -/
def freeParcel (s : State) (k : Nat) : Nat :=
  ((usedParcels s).foldr insNat []).foldl (fun x u => if u ≤ x then x + 1 else x) k

/-- Plot Pp takes n parcels of the free pool. Which ones is open (log 25). -/
def takeParcels (p : Nat) : Nat → State → State
  | 0, s => s
  | n + 1, s =>
    if freeParcels s = 0 then s
    else
      let x := freeParcel s ((Config.pickParcel s.free).toNat % freeParcels s)
      takeParcels p n ((s.onPlot p (fun q => { q with parcels := q.parcels ++ [x] })).took)

/-- Plot Pp gives n parcels back: they are zero-filled before they are free again (R293). -/
def giveParcels (p n : Nat) (s : State) : State :=
  s.onPlot p (fun q => { q with parcels := q.parcels.drop n, zeroing := q.zeroing ++ q.parcels.take n })

/-- A parcel is zero-filled with valid check bits (R293, R559). -/
def fillParcel (x : Nat) (m : Store CWord) : Store CWord :=
  m.filter (fun e => decide (e.1 < 16 * x) || decide (16 * x + 16 ≤ e.1))

end Sys2Proof.Machine
end

