-- ==== Sys2Proof/Machine/Operands.lean ====
section
/-!
DEFINITION. The operand forms: every field of the configuration space, of the option bytes and of a culvert
request, read out of its word in one place. A plot acts on its working copy (R217); `m` is whichever copy the
caller reads.
-/

namespace Sys2Proof.Machine

/-- `n`, or `d` where it is 0. -/
def orElse0 (n d : Nat) : Nat := if n = 0 then d else n

/-! ### Reserved bits of the configuration space (R14, R223, R340, R395, R495, R536; log 71) -/

/-- The bits a plot table word holds. What the words 9 to 11 hold depends on the role: they keep every bit. -/
def plotMask : Nat → W
  | 0 => 0x003FFF0F
  | 1 => 0x7FFF7FFF
  | 2 => 0x1FFF7FFF
  | 3 => 0x00FFFFFF
  | 4 | 5 | 6 | 7 => 0x7FFF7FFF
  | 8 => 0x0003FFFF
  | 9 | 10 | 11 => 0xFFFFFFFF
  | 12 => 0x7BFF7BFF
  | _ => 0

/-- The bits a word of the configuration half of port block n (from 0) holds. -/
def portMask (n : Nat) : Nat → W
  | 0 => 0x03FF03F7
  | 1 => 0xFFFFFFFF
  | 2 | 3 | 4 | 5 | 7 => 0x0FFF0FFF
  | 6 | 8 => 0x00FF0FFF
  | 9 => if 12 ≤ n then 0x00000FFF else 0
  | _ => 0

/-- The bits a word of the configuration half of a culvert block holds. -/
def culvMask : Nat → W
  | 0 => 0x00007FFF
  | 1 => 0xFF3FFFFF
  | 2 => 0xFF00FFFF
  | 3 => 0x03FF03FF
  | 4 => 0xFFFF7FFF
  | 5 => 0xFFFF00FF
  | 6 => 0x00FFFFFF
  | 7 => 0xFFFFFFFF
  | 8 => 0x0000FFFF
  | k => if 16 ≤ k ∧ k < 32 then (if k % 2 = 0 then 0x7FFF7FFF else 0x0000FF7F) else 0

/-- The bits a word of the configuration space holds. The source table and the routing matrix hold every bit, because
check 0xE looks at their reserved ones (R398, R575). -/
def cfgMask (a : Nat) : W :=
  if a < 0x8000 then plotMask (a % 16)
  else if 0x20000 ≤ a ∧ a < 0x21000 then portMask ((a - 0x20000) / 256) (a % 256)
  else if 0x30000 ≤ a ∧ a < 0x31000 then culvMask (a % 1024)
  else 0xFFFFFFFF

/-- What address `a` of the configuration space holds after a write of `v`: reserved bits read 0 (R14). -/
def cfgStored (a : Nat) (v : W) : W := v &&& cfgMask a

/-! ### Plot table (R223, R224) -/

/-- Word k of the entry of plot Pp. -/
def plotW (m : Store W) (p k : Nat) : W := rdW m (16 * p + k)
def cRole (m : Store W) (p : Nat) : Nat := (plotW m p 0).bits 3 0
def cLedgerCap (m : Store W) (p : Nat) : Nat := (plotW m p 0).bits 21 8
def cSpateRes (m : Store W) (p : Nat) : Nat := (plotW m p 1).bits 14 0
def cWorstUse (m : Store W) (p : Nat) : Nat := (plotW m p 1).bits 30 16
def cTurn (m : Store W) (p : Nat) : Nat := (plotW m p 2).bits 14 0
def cParcelCap (m : Store W) (p : Nat) : Nat := (plotW m p 2).bits 28 16
def cSchedOff (m : Store W) (p : Nat) : Nat := (plotW m p 3).bits 15 0
def cSchedLen (m : Store W) (p : Nat) : Nat := (plotW m p 3).bits 23 16
/-- Cost of item kind k. -/
def cCost (m : Store W) (p k : Nat) : Nat := (plotW m p (4 + k / 2)).bits (16 * (k % 2) + 12) (16 * (k % 2))
/-- Class of item kind k: 0 Spate, 1 Flow, 2 Seep, 3 unused. -/
def cClass (m : Store W) (p k : Nat) : Nat := (plotW m p (4 + k / 2)).bits (16 * (k % 2) + 14) (16 * (k % 2) + 13)
def cPortMask (m : Store W) (p : Nat) : Nat := (plotW m p 8).bits 15 0
def cCulvert (m : Store W) (p : Nat) : Nat := (plotW m p 8).bits 17 16
def cSluiceBind (m : Store W) (p : Nat) : W := plotW m p 12

/-- The traffic class with a code (R223). -/
def classOf : Nat → Option TClass
  | 0 => some .spate
  | 1 => some .flow
  | 2 => some .seep
  | _ => none

def classCode : TClass → Nat
  | .spate => 0
  | .flow => 1
  | .seep => 2

/-- Role codes (R19). -/
def rIDLE : Nat := 0
def rTT : Nat := 1
def rCULV : Nat := 2
def rWARD : Nat := 3
def rCAD : Nat := 4
def rFUNC : Nat := 5
def rTAND : Nat := 6

/-- A slot (R224). -/
structure Slot where
  cls : Nat
  start : Nat
  len : Nat
  deriving DecidableEq, Repr

def slotOf (w : W) : Slot := ⟨w.bits 31 30, w.bits 29 15, w.bits 14 0⟩

/-- The slot words of Pp, end marker included. -/
def cSlotList (m : Store W) (p : Nat) : List Slot :=
  (List.range (cSchedLen m p)).map (fun i => slotOf (rdW m (0x10000 + cSchedOff m p + i)))

/-- The slots of Pp, without the end marker. -/
def cSlots (m : Store W) (p : Nat) : List Slot := (cSlotList m p).filter (fun s => s.cls ≠ 3)

/-- A plot's Spate reservation measured by its slots (R225). -/
def cSpateSum (m : Store W) (p : Nat) : Nat :=
  (((cSlots m p).filter (fun s => s.cls = 0)).map Slot.len).sum

/-! ### Working copies (R217, R218) -/

def maskHas (mask n : Nat) : Bool := mask.testBit n

/-- The words plot Pp owns in `space`. -/
def extractPlot (space : Store W) (p : Nat) : Store W :=
  let r := cRole space p
  sliceStore space (16 * p) (16 * p + 16)
    ++ (if r = rIDLE then [] else
        sliceStore space (0x10000 + cSchedOff space p) (0x10000 + cSchedOff space p + cSchedLen space p))
    ++ (if r = rWARD then
        (List.range 16).flatMap (fun n => if maskHas (cPortMask space p) n then
          sliceStore space (0x20000 + 256 * n) (0x20000 + 256 * n + 64) else [])
       else [])
    ++ (if r = rCULV && cCulvert space p ≠ 0 then
        sliceStore space (0x30000 + 1024 * (cCulvert space p - 1)) (0x30000 + 1024 * (cCulvert space p - 1) + 512)
       else [])

/-- The plot of `space` whose words own port block n (from 0), culvert block c (from 1). -/
def wardenIn (space : Store W) (n : Nat) : Option Nat :=
  (List.range 63).find? (fun p => cRole space p = rWARD && maskHas (cPortMask space p) n)
def culvIn (space : Store W) (c : Nat) : Option Nat :=
  (List.range 63).find? (fun p => cRole space p = rCULV && cCulvert space p = c)

/-- A schedule word lies in some plot's slot list. -/
def inSlotList (space : Store W) (a : Nat) : Bool :=
  (List.range 63).any (fun p => cRole space p ≠ rIDLE &&
    0x10000 + cSchedOff space p ≤ a && a < 0x10000 + cSchedOff space p + cSchedLen space p)

/-- The words of device scope (R218). -/
def extractDevice (space : Store W) : Store W :=
  (sliceStore space 0x10000 0x12000).filter (fun e => !inSlotList space e.1)
    ++ (List.range 16).flatMap (fun n => if (wardenIn space n).isSome then [] else
        sliceStore space (0x20000 + 256 * n) (0x20000 + 256 * n + 64))
    ++ (List.range 3).flatMap (fun c => if (culvIn space (c + 1)).isSome then [] else
        sliceStore space (0x30000 + 1024 * c) (0x30000 + 1024 * c + 512))
    ++ sliceStore space 0x50000 0x50400 ++ sliceStore space 0x70000 0x70040

/-- A plot is changed when a word it owns differs from its working copy (R218). -/
def changedPlot (s : State) (p : Nat) : Bool := (s.plot p).wc ≠ extractPlot s.cfg.space p
def changedPlots (s : State) : List Nat := (List.range 63).filter (changedPlot s)
/-- Some device-scope word differs from what was applied last. -/
def changedDevice (s : State) : Bool := s.cfg.devScope ≠ extractDevice s.cfg.space

/-! ### Running roles -/

def State.role (s : State) (p : Nat) : Nat := cRole (s.plot p).wc p
def State.plotsOf (s : State) (r : Nat) : List Nat := (List.range 63).filter (fun p => s.role p = r)

/-- The plot whose working copy makes it the warden, the TT plot, of port n (from 0). -/
def State.warden (s : State) (n : Nat) : Option Nat :=
  (s.plotsOf rWARD).find? (fun p => maskHas (cPortMask (s.plot p).wc p) n)
def State.ttPlot (s : State) (n : Nat) : Option Nat :=
  (s.plotsOf rTT).find? (fun p => maskHas (cPortMask (s.plot p).wc p) n)
/-- The CULV plot of culvert c (0 for C1). -/
def State.culvPlot (s : State) (c : Nat) : Option Nat :=
  (s.plotsOf rCULV).find? (fun p => cCulvert (s.plot p).wc p = c + 1)
def State.tandPlot (s : State) : Option Nat := (s.plotsOf rTAND).head?
/-- The CAD plot of stream k (R460). -/
def State.cadPlot (s : State) (k : Nat) : Option Nat :=
  (s.plotsOf rCAD).find? (fun p => (plotW (s.plot p).wc p 9).bits 2 0 = k)
/-- The FUNC plot that serves endpoint e: the lowest-numbered one whose EP_MASK has bit e; the lowest-numbered one
serves endpoint 0 and an endpoint in no EP_MASK (R284, R299). -/
def State.funcPlot (s : State) (e : Nat) : Option Nat :=
  match (s.plotsOf rFUNC).find? (fun p => e ≠ 0 && (plotW (s.plot p).wc p 9).bit e) with
  | some p => some p
  | none => (s.plotsOf rFUNC).head?

/-- Plot Pp executes items now: the device runs, and it is not paused, fenced, seized or stranded
(R114, R245, R559, R595). -/
def plotRuns (s : State) (p : Nat) : Bool :=
  let q := s.plot p
  fieldRuns s && !q.paused && !q.fenced && !q.seized && !q.stranded

def optRuns (s : State) (o : Option Nat) : Bool :=
  match o with
  | some p => plotRuns s p
  | none => false

/-- Nothing has taken the plot in `o` from its work: a plot that is paused or fenced has its interfaces run on, and what
they take waits in its sluices (R18, R247, R289, R595). -/
def optOpen (s : State) (o : Option Nat) : Bool :=
  match o with
  | some p => !(s.plot p).seized && !(s.plot p).stranded
  | none => false

/-! ### Port blocks (R495, R536) -/

/-- The working copy that holds the block of port n: its warden's, or the device-scope words. -/
def State.portWc (s : State) (n : Nat) : Store W :=
  match s.warden n with
  | some p => (s.plot p).wc
  | none => s.cfg.devScope
/-- Word k of the running block of port n (from 0). -/
def State.portW (s : State) (n k : Nat) : W := rdW (s.portWc n) (0x20000 + 256 * n + k)

def clampTo (lo hi x : Nat) : Nat := if x < lo then lo else if hi < x then hi else x

def pEn (s : State) (n : Nat) : Bool := (s.portW n 0).bit 0
def pAutoClr (s : State) (n : Nat) : Bool := (s.portW n 0).bit 1
def pHvAllow (s : State) (n : Nat) : Bool := decide (12 ≤ n) && (s.portW n 0).bit 2
/-- 0 acts as 64; otherwise the nearest limit of 8 to 63. -/
def pSsTicks (s : State) (n : Nat) : Nat :=
  let v := (s.portW n 0).bits 9 4
  if v = 0 then 64 else clampTo 8 63 v
def pDischTo (s : State) (n : Nat) : Nat := clampTo 8 1023 ((s.portW n 0).bits 25 16)
def pVFs (s : State) (n : Nat) : Nat := clampTo 1800 65535 ((s.portW n 1).bits 15 0)
def pIFs (s : State) (n : Nat) : Nat := clampTo 1 65535 ((s.portW n 1).bits 31 16)
def pIZero (s : State) (n : Nat) : Nat := (s.portW n 2).bits 11 0
def pPgTh (s : State) (n : Nat) : Nat := (s.portW n 2).bits 27 16
def pOvp5 (s : State) (n : Nat) : Nat := (s.portW n 3).bits 11 0
def pOvpHv (s : State) (n : Nat) : Nat := (s.portW n 3).bits 27 16
def pOcp (s : State) (n : Nat) : Nat := (s.portW n 4).bits 11 0
def pOcpRamp (s : State) (n : Nat) : Nat := (s.portW n 4).bits 27 16
def pRcp (s : State) (n : Nat) : Nat := (s.portW n 5).bits 11 0
def pUvTh (s : State) (n : Nat) : Nat := (s.portW n 5).bits 27 16
def pIlim (s : State) (n : Nat) : Nat := (s.portW n 6).bits 11 0
def pIlimTicks (s : State) (n : Nat) : Nat := clampTo 1 255 ((s.portW n 6).bits 23 16)
def pOpenHi (s : State) (n : Nat) : Nat := clampTo 2048 4095 ((s.portW n 7).bits 11 0)
def pOpenLo (s : State) (n : Nat) : Nat := clampTo 0 2047 ((s.portW n 7).bits 27 16)
def pPgHv (s : State) (n : Nat) : Nat := (s.portW n 8).bits 11 0
def pRailSettle (s : State) (n : Nat) : Nat := clampTo 1 255 ((s.portW n 8).bits 23 16)

/-- Type-C fields of DP13 + t (R536). -/
def tcW (s : State) (t : Nat) : W := s.portW (12 + t) 9
def tcEn (s : State) (t : Nat) : Bool := (tcW s t).bit 0
/-- 0 acts as 1. -/
def tcRpLevel (s : State) (t : Nat) : Nat := orElse0 ((tcW s t).bits 2 1) 1
def tcVconnAllow (s : State) (t : Nat) : Bool := (tcW s t).bit 3
def tcVconnAuto (s : State) (t : Nat) : Bool := (tcW s t).bit 4
def tcHrAuto (s : State) (t : Nat) : Bool := (tcW s t).bit 5
def tcCollAvoid (s : State) (t : Nat) : Bool := (tcW s t).bit 6
def tcRxEp4 (s : State) (t : Nat) : Bool := (tcW s t).bit 7
def tcSop1En (s : State) (t : Nat) : Bool := (tcW s t).bit 8
def tcSop2En (s : State) (t : Nat) : Bool := (tcW s t).bit 9
/-- The specification revision field of a GoodCRC: 0 and 3 act as 2. -/
def tcSpecRev (s : State) (t : Nat) : Nat := if (tcW s t).bits 11 10 = 1 then 1 else 2

/-! ### Culvert blocks (R395) -/

def State.culvWc (s : State) (c : Nat) : Store W :=
  match s.culvPlot c with
  | some p => (s.plot p).wc
  | none => s.cfg.devScope
def State.culvW (s : State) (c k : Nat) : W := rdW (s.culvWc c) (0x30000 + 1024 * c + k)

def kEnable (s : State) (c : Nat) : Bool := (s.culvW c 0).bit 0
def kStrict (s : State) (c : Nat) : Bool := (s.culvW c 0).bit 1
def kHighFirst (s : State) : Bool := (s.culvW 0 0).bit 2
def kParChk (s : State) : Bool := (s.culvW 0 0).bit 3
def kArbiter (s : State) : Bool := (s.culvW 0 0).bit 4
def kInvForeign (s : State) : Bool := (s.culvW 0 0).bit 5
def kEcho (s : State) (c : Nat) : Bool := (s.culvW c 0).bit 7
def kLockMax (s : State) : Nat := min 64 (orElse0 ((s.culvW 0 0).bits 14 8) 64)
def kSpateTurn (m : Store W) (c : Nat) : Nat := (rdW m (0x30000 + 1024 * c + 4)).bits 14 0
def kOpTimeout (s : State) (c : Nat) : Nat := (s.culvW c 4).bits 31 16
def kTenure (s : State) : Nat := orElse0 ((s.culvW 0 5).bits 7 0) 256
def kSemTimeout (s : State) (c : Nat) : Nat := orElse0 ((s.culvW c 5).bits 31 16) 65535
def kMaxFrame (s : State) (c : Nat) : Nat := orElse0 ((s.culvW c 8).bits 15 8) 255
def kQrBase (s : State) (r : Nat) : Nat := (s.culvW 0 (16 + 2 * r)).bits 14 0
def kQrLen (s : State) (r : Nat) : Nat := (s.culvW 0 (16 + 2 * r)).bits 30 16
def kQrDepth (s : State) (r : Nat) : Nat := clampTo 1 64 ((s.culvW 0 (17 + 2 * r)).bits 6 0)
def kQrAge (s : State) (r : Nat) : Nat := clampTo 1 255 ((s.culvW 0 (17 + 2 * r)).bits 15 8)

/-! ### Role parameters (R298, R434, R460) -/

def ttNpTimeout (s : State) (p : Nat) : Nat := max 8 ((plotW (s.plot p).wc p 9).bits 15 0)
/-- The class of a non-periodic split to port n (R298, R436). -/
def ttNpClass (m : Store W) (p n : Nat) : TClass :=
  if (plotW m p 10).bit n then .spate else if (plotW m p 10).bit (n + 16) then .seep else .flow
def tandInitKeeper (s : State) (p : Nat) : Bool := (plotW (s.plot p).wc p 9).bit 0
def tandFwdEn (s : State) (p : Nat) : Bool := (plotW (s.plot p).wc p 9).bit 1
def tandPairId (s : State) (p : Nat) : Nat := (plotW (s.plot p).wc p 9).bits 31 16
def cadSense (m : Store W) (p : Nat) : Bool := (plotW m p 9).bit 3
def cadFlow (m : Store W) (p : Nat) : Bool := (plotW m p 9).bit 4
def cadAddr (m : Store W) (p : Nat) : Nat := (plotW m p 9).bits 22 8
/-- The ADC slot of the sense channel SRC_ADDR selects: 2 (n − 1) for the voltage of DPn, and the next for its current
(R460, R471). -/
def senseSlot (m : Store W) (p : Nat) : Nat := 2 * (cadAddr m p % 16) + cadAddr m p / 16 % 2
def cadRate (m : Store W) (p : Nat) : Nat := (plotW m p 10).toNat
def cadAdjLim (m : Store W) (p : Nat) : Nat := (plotW m p 11).bits 15 0
/-- ADJ held within ADJ_LIM (R451). -/
def clampAdj (lim : Nat) (a : W) : W := BitVec.ofInt 32 (max (-(lim : Int)) (min (lim : Int) a.toInt))
def cadLateMax (m : Store W) (p : Nat) : Nat := orElse0 ((plotW m p 11).bits 27 16) 4095

/-! ### Source table and safe-state table (R541, R574, R576) -/

/-- The listed source codes, as one inclusive list of ranges. -/
def listedSource (c : Nat) : Bool :=
  (1 ≤ c && c ≤ 0x3F) || (0x41 ≤ c && c ≤ 0x53) || c = 0x58 || (0x60 ≤ c && c ≤ 0x67) || c = 0x6F
def sources : List Nat := (List.range 128).filter listedSource

def srcW (m : Store W) (c k : Nat) : W := rdW m (0x50000 + 4 * c + k)
def srcCollect (m : Store W) (c : Nat) : Bool := (srcW m c 0).bit 8
def srcInj (m : Store W) (c : Nat) : Bool := (srcW m c 0).bit 9
def srcInjSel (m : Store W) (c : Nat) : Nat := (srcW m c 1).bits 17 0

/-- The 16-bit field of source c in option words 128 to 191. -/
def safeField (opt : Store W) (c : Nat) : W :=
  BitVec.ofNat 32 ((rdW opt (128 + c / 2)).bits (16 * (c % 2) + 15) (16 * (c % 2)))
def safeScope (opt : Store W) (c : Nat) : Scope :=
  match (safeField opt c).bits 2 0 with
  | 0 => .none
  | 1 => .self
  | 2 => .group
  | _ => .device
def safeNMax (opt : Store W) (c : Nat) : Nat := orElse0 ((safeField opt c).bits 6 3) 15
def safeWlogMin (opt : Store W) (c : Nat) : Nat := min 13 ((safeField opt c).bits 10 7)
def safeHlog (opt : Store W) (c : Nat) : Nat := (safeField opt c).bits 14 11
def safeFault (opt : Store W) (c : Nat) : Bool := (safeField opt c).bit 15
/-- The output level choices (word 192). -/
def attnSafe (opt : Store W) (k : Nat) : Nat := (rdW opt 192).bits (2 * k + 1) (2 * k)
def bgSafeHigh (opt : Store W) : Bool := (rdW opt 192).bit 16

def Scope.code : Scope → Nat
  | .none => 0
  | .self => 1
  | .group => 2
  | .device => 3

/-- The effective threshold and window of source c (R554). -/
def effN (s : State) (c : Nat) : Nat :=
  min (orElse0 ((srcW s.cfg.hwTable c 0).bits 3 0) 1) (safeNMax s.nvm.opt c)
def effW (s : State) (c : Nat) : Nat :=
  2 ^ (max (min 13 ((srcW s.cfg.hwTable c 0).bits 7 4)) (safeWlogMin s.nvm.opt c) + 3)
/-- The hold of source c in ticks; none until device reset (R562, R576). -/
def holdTicks (s : State) (c : Nat) : Option Nat :=
  let h := safeHlog s.nvm.opt c
  if 14 ≤ h then none else some (2 ^ (h + 3))

/-- The effective FMIN in units of 50 us (R205). -/
def fminEff (f : BitVec 8) : Nat := clampTo 1 200 f.toNat

/-! ### Rotation (R213) -/

def rotTicks (period : BitVec 5) : Nat := 2 ^ (clampTo 12 20 period.toNat)

end Sys2Proof.Machine
end

