-- ==== Sys2Proof/Machine/Crc.lean ====
section
/-!
DEFINITION. The checksums of the spec: the tally CRC-8 (R154), the tandem CRC-16 (R406), the CRC-32C (R221), and the
covered words of the configuration CRC in their order (R227, R228).
-/

namespace Sys2Proof.Machine

/-! ### CRC-8 (R154): polynomial 0x07, initial 0, not reflected -/

def crc8Bit (c : BitVec 8) : BitVec 8 := if c.msb then (c <<< 1) ^^^ 0x07 else c <<< 1
def crc8Byte (c b : BitVec 8) : BitVec 8 :=
  crc8Bit (crc8Bit (crc8Bit (crc8Bit (crc8Bit (crc8Bit (crc8Bit (crc8Bit (c ^^^ b))))))))
def crc8 (bs : List Byte) : BitVec 8 := bs.foldl crc8Byte 0
/-- The bytes of a word in frame order, most significant first (R148). -/
def frameBytes (w : W) : List Byte := w.bytes.reverse

/-! ### CRC-16 (R406): polynomial 0x1021, initial 0xFFFF, not reflected -/

def crc16Bit (c : BitVec 16) : BitVec 16 := if c.msb then (c <<< 1) ^^^ 0x1021 else c <<< 1
def crc16Byte (c : BitVec 16) (b : Byte) : BitVec 16 :=
  crc16Bit (crc16Bit (crc16Bit (crc16Bit (crc16Bit (crc16Bit (crc16Bit (crc16Bit (c ^^^ (b.setWidth 16 <<< 8)))))))))
def crc16 (bs : List Byte) : BitVec 16 := bs.foldl crc16Byte 0xFFFF

/-! ### CRC-32C (R221): polynomial 0x1EDC6F41 reflected is 0x82F63B78 -/

def crc32Bit (c : W) : W := if c.getLsbD 0 then (c >>> 1) ^^^ 0x82F63B78 else c >>> 1
def crc32Byte (c : W) (b : Byte) : W :=
  crc32Bit (crc32Bit (crc32Bit (crc32Bit (crc32Bit (crc32Bit (crc32Bit (crc32Bit (c ^^^ b.setWidth 32))))))))
/-- Enter a word, least significant byte first, into a running CRC. -/
def crc32Word (c w : W) : W := w.bytes.foldl crc32Byte c
def crc32Init : W := 0xFFFFFFFF
def crc32Fin (c : W) : W := c ^^^ 0xFFFFFFFF
def crc32Bytes (bs : List Byte) : W := crc32Fin (bs.foldl crc32Byte crc32Init)
def crc32Words (ws : List W) : W := crc32Fin (ws.foldl crc32Word crc32Init)

/-! ### The covered words (R227) -/

/-- The ranges of the configuration space: first address and length. -/
def coveredRanges : List (Nat × Nat) :=
  [(0x00000, 1008), (0x10000, 8192)]
    ++ (List.range 16).map (fun n => (0x20000 + 256 * n, 64))
    ++ (List.range 3).map (fun c => (0x30000 + 1024 * c, 512))
    ++ [(0x50000, 1024), (0x70000, 64)]

/-- Address `a` lies in the configuration space. -/
def covered (a : Nat) : Bool := coveredRanges.any (fun r => r.1 ≤ a && a < r.1 + r.2)

/-- The addresses at positions from `k` on, `n` of them, in the order of R227. -/
def coveredSlice : List (Nat × Nat) → Nat → Nat → List Nat
  | [], _, _ => []
  | (a, l) :: rs, k, n =>
    if l ≤ k then coveredSlice rs (k - l) n
    else
      let m := min n (l - k)
      (List.range m).map (fun i => a + k + i) ++ coveredSlice rs 0 (n - m)

/-- R228: the words tick k of a pass reads. -/
def passAddrs (k : Nat) : List Nat :=
  let lo := 12848 * k / 64
  let hi := 12848 * (k + 1) / 64
  coveredSlice coveredRanges lo (hi - lo)

/-- The configuration CRC of a whole space. -/
def cfgCrcOf (space : Store W) : W :=
  crc32Words ((coveredSlice coveredRanges 0 12848).map (rdW space))

end Sys2Proof.Machine
end

