-- ==== Sys2Proof/Machine/Flags.lean ====
section
/-!
DEFINITION. Everything that is read and never stored: status flags and counters as the direct registers show
them, the words of the indirect space and the alert sources.
-/

namespace Sys2Proof.Machine

/-! ### Power state (R143) and the alert lines (R162, R564) -/

/-- PWR_STATE.STATE. Before the domains are released nothing can read it; it holds its reset value 4. -/
def pwrStateCode : Phase → Nat
  | .run => 0
  | .quiesce => 1
  | .rest => 2
  | .shutdown => 3
  | .seedFail => 5
  | _ => 4

def severeSrcs (s : State) : List Nat := (s.hay.srcs.filter (fun e => e.2.severe)).map Prod.fst
def severeAny (s : State) : Bool := !(severeSrcs s).isEmpty
def noSrc : SrcSt := ⟨false, [], none, .none, 0⟩
def State.src (s : State) (c : Nat) : SrcSt := rdStore noSrc s.hay.srcs c
def isSevere (s : State) (c : Nat) : Bool := (s.src c).severe

/-- SEED_FAIL, and the shutdown that leaves it, up to its step 7 (R127, R140). -/
def seedFailed (s : State) : Bool :=
  s.pwr.phase = .seedFail || (s.pwr.seedBad && s.pwr.phase = .shutdown)

/-- R564: FAULT_N is driven low. -/
def faultDriven (s : State) : Bool :=
  s.hay.minRun || s.hay.hold || s.hay.force || s.hay.safeDev || seedFailed s

/-! ### Sticky flags, as words of W1C bits -/

def tickFlags (s : State) : Nat := flagsW [s.tick.sofMiss, s.tick.restep, s.tick.range, s.tick.ovrAny] * 4
def cfgFlags (s : State) : Nat :=
  flagsW [s.cfg.commitOk, s.cfg.commitFail, s.cfg.expired, s.cfg.mismatch, s.cfg.checkFail] * 512
def fenceFlags (s : State) : Nat := flagsW [s.cfg.fApplied, s.cfg.fRefused] * 512
def fallowFlags (s : State) : Nat :=
  flagsW [s.field.busy, s.field.swapDone, s.field.testFail] * 2 ^ 15
    + flagsW [s.field.memDone, s.field.memFail] * 2 ^ 20
def tstatFlags (s : State) : Nat :=
  flagsW [s.tally.crcErr, s.tally.malformed, s.tally.unmapped, s.tally.notReady, s.tally.denied, s.tally.lockedWr,
    s.tally.poisonRd] * 16

/-! ### Idle conditions of the blocks (R133) -/

/-- An open entry of the ledger for culvert c (1 for C1). -/
def culvEntryOpen (s : State) (c : Nat) : Bool :=
  (openEntries s).any (fun e => e.2.culv = c && e.2.kind ≠ .split)

def quietPort (s : State) (n : Nat) : Bool := (s.hubPort n).st = .poweredOff || (s.hubPort n).st = .disconnected

/-- R133: no PD message is being sent or received; a SEND that still waits is none (R535). -/
def pdQuiet (t : TcPort) : Bool := t.phy ≠ .gcrcWait && !t.hrSend && !t.crSend && !t.bist

def blkIdle (s : State) (b : Nat) : Bool :=
  match b with
  | 0 => !s.hub.pullup
  | 1 => (List.range 8).all (quietPort s)
  | 2 => (List.range 8).all (fun n => quietPort s (n + 8))
  | 3 => s.tcs.all pdQuiet
  | 4 => !s.culvs.bus.held && !culvEntryOpen s 1
  | 5 => (s.culvs.c2.ser = .idle || s.culvs.c2.ser = .spacing) && !culvEntryOpen s 2
  | 6 => (s.culvs.c3.ser = .idle || s.culvs.c3.ser = .spacing) && !culvEntryOpen s 3
  | 7 => s.tand.st = .off || !s.tand.linkUp
  | 8 => s.ports.all (fun p => p.st ≠ .ramp && p.st ≠ .on)
  | 9 => s.nvm.op.isNone
  | _ => true

/-! ### Alerts (R163, R210) -/

def pdAlert (s : State) : Bool := s.tcs.any (fun t => t.evt ≠ 0)
def portAlert (s : State) : Bool := s.ports.any (fun p => p.evt ≠ 0)
def culvAlert (s : State) : Bool :=
  s.culvs.c1.evt ≠ 0 || s.culvs.c2.evt ≠ 0 || s.culvs.c3.evt ≠ 0 || s.culvs.latnEdge ≠ 0

/-- ALERT_SRC bits 3 to 14. -/
def blockAlerts (s : State) : List Bool :=
  [tickFlags s ≠ 0, cfgFlags s ≠ 0, fenceFlags s ≠ 0, fallowFlags s ≠ 0, s.stby.restBlocked || s.stby.lost,
   s.pwr.blkRefused ≠ 0, s.nvm.done || s.nvm.err, tstatFlags s ≠ 0, s.usb.denied || s.usb.wrote, pdAlert s,
   portAlert s, culvAlert s]

/-- ALERT_SRC. In local mode bit 0 also stands while any block flag behind bits 3 to 14 stands (log 14). -/
def alertSrc (s : State) : Nat :=
  flagsW ([!s.hay.queue.isEmpty || (!s.hay.mode && (blockAlerts s).any id), severeAny s, faultDriven s]
    ++ blockAlerts s ++ [decide (s.pwr.phase = .seedFail)])

/-- R162: ALERT_N is driven low. -/
def alertDriven (s : State) : Bool :=
  (BitVec.ofNat 16 (alertSrc s) &&& s.hay.alertEn) ≠ 0 || seedFailed s

/-! ### Rotation and tests -/

/-- Plots that wait for a swap-based update: pending ones that no joint step applies (R237, R255). -/
def swapPend (s : State) : List Nat :=
  s.cfg.pend.filter (fun p => match s.cfg.step with
    | some st => !st.plots.contains p
    | none => true)

/-- R214: rotation is stopped by HALT or by a swap-based update still to be made. -/
def rotHalted (s : State) : Bool := s.field.halt || !(swapPend s).isEmpty || s.cfg.load.isSome

/-- R582: phase of a test that has run `t` ticks. -/
def testPhase (t : Nat) : Nat := if t < 2 then 1 else if t < 34 then 2 else if t < 290 then 3 else 4
def State.phaseNow (s : State) : Nat :=
  match s.field.testAt with
  | some a => testPhase (s.tick.now - a)
  | none => 0

def maskOf (l : List Nat) : Nat := (l.map (2 ^ ·)).sum

/-! ### The direct registers (R165 to R216) -/

def Outc.code : Outc → Nat
  | .ok => 0
  | .notReady => 1
  | .crcBad => 2
  | .malformed => 3
  | .unmapped => 4
  | .denied => 5
  | .locked => 6
  | .none => 7
  | .poison => 8

def TickSt.code : TickSt → Nat
  | .free => 0
  | .acquire => 1
  | .locked => 2
  | .holdover => 3

def rTstat (s : State) : W :=
  mkW [(0, 4, s.tally.last.code), (0, 16, tstatFlags s), (16, 8, s.tally.crcCnt), (24, 8, s.tally.malCnt)]
def rIwc (w : Win) : W :=
  mkW [(0, 8, w.step.toNat), (8, 1, b2n w.dir), (9, 1, b2n w.page), (16, 1, b2n w.rdy), (17, 1, b2n w.wbuf.isSome)]
def rCfgCtl (s : State) : W := mkW [(4, 4, s.cfg.checkCode), (8, 1, b2n s.cfg.isOpen), (0, 32, cfgFlags s)]
def rFence (s : State) : W :=
  mkW [(8, 1, b2n s.cfg.fPending), (0, 32, fenceFlags s), (16, 4, s.cfg.fenceList.length), (20, 4, s.cfg.fReason)]
def rBlkIdle (s : State) : W :=
  mkW [(0, 10, flagsW ((List.range 10).map (blkIdle s))), (16, 10, s.pwr.blkRefused.toNat)]
def rRstCause (s : State) : W :=
  let c := s.stby
  mkW [(0, 7, flagsW [c.por, c.brownout, c.pin, c.soft, c.wdog, c.shutdown, c.usbrst]), (8, 4, c.last),
    (12, 3, c.brownRail), (16, 7, c.shutSteps.toNat), (24, 1, b2n c.incomplete)]
def rPwrState (s : State) : W :=
  mkW [(0, 3, pwrStateCode s.pwr.phase), (7, 1, b2n s.pwr.restEn), (8, 1, b2n s.stby.restBlocked),
    (9, 1, b2n s.stby.lost)]
/-- MODE as a read shows it: the value written, before its commit boundary too (R205, R235). -/
def rHwCtl (s : State) : W :=
  mkW [(0, 1, b2n s.cfg.hwMode), (2, 1, b2n s.hay.injArm), (8, 8, s.hay.fmin.toNat)]
def rHwStat (s : State) : W :=
  mkW [(0, 6, flagsW [s.hay.mode, severeAny s, !s.hay.queue.isEmpty, s.hay.qovf, s.hay.selfPar, s.hay.safeDev]),
    (8, 8, (severeSrcs s).length), (16, 7, s.hay.queue.length)]
def rFltPin (s : State) : W :=
  mkW [(0, 2, flagsW [s.hay.hold, s.hay.force]), (8, 2, flagsW [faultDriven s, s.hay.minRun])]
def rSafeCtl (s : State) : W := mkW [(8, 2, flagsW [s.hay.safeDev, s.hay.relRefused])]
def rTickStat (s : State) : W :=
  mkW [(0, 2, s.tick.st.code), (0, 32, tickFlags s), (8, 3, s.tick.uframe.toNat), (11, 11, s.tick.frame.toNat)]
def rTickTrim (s : State) : W :=
  mkW [(0, 16, s.tick.curTrim.toNat), (16, 8, s.tick.freeTrim.toNat), (24, 2, s.tick.toutMode.toNat),
    (31, 1, b2n s.tick.holdLast)]
def rFallowCtl (s : State) : W := mkW [(0, 5, s.field.period.toNat), (5, 1, b2n s.field.halt)]
def rFallowStat (s : State) : W :=
  mkW [(0, 6, s.field.fallow.getD 63),
    (6, 1, b2n s.field.shadow.isSome), (7, 1, b2n s.field.noSpare), (8, 6, s.field.lastTested),
    (14, 1, b2n s.field.lastPass), (0, 32, fallowFlags s), (18, 1, b2n (rotHalted s && !s.field.noSpare)), (19, 1, b2n s.field.memRun),
    (24, 6, s.field.failedF), (30, 1, b2n (!s.field.failed.isEmpty))]
/-- ADDR is RW and reads back; CMD is WO and reads 0 (R13, R211). -/
def rNvmCtl (s : State) : W := mkW [(0, 14, s.nvm.addr.toNat)]
def rNvmStat (s : State) : W :=
  mkW [(0, 7, flagsW [s.nvm.op.isSome, s.nvm.done, s.nvm.err, s.nvm.keyErr, s.nvm.refused, s.nvm.ecc1, s.nvm.ecc2])]
def rFuseStat (s : State) : W :=
  mkW [(0, 5, flagsW [s.nvm.fBlown, s.nvm.fArmed, s.nvm.fBusy, s.nvm.fFail, s.nvm.fRefused])]
def rUsbAcc (s : State) : W :=
  mkW [(0, 2, s.usb.mode.toNat), (4, 2, s.usb.owner), (8, 3, flagsW [s.usb.active, s.usb.denied, s.usb.wrote]),
    (12, 4, s.usb.last.code)]
def rHwMsg (s : State) : W := s.hay.queue.headD 0

/-- The value a read of direct register `idx` returns to `path`; none for a reserved index. IWD is read through
its window (Machine/Window.lean). -/
def directValue (s : State) (path : Path) (idx : Nat) : Option W :=
  match idx with
  | 0x00 => some Config.id
  | 0x01 => some Config.rev
  | 0x02 => some (mkW [(0, 1, b2n s.tally.lcrc)])
  | 0x03 => some (rTstat s)
  | 0x04 => some ((s.win path).iwa.setWidth 32)
  | 0x05 => some (s.win path).buf.data
  | 0x06 => some (rIwc (s.win path))
  | 0x08 => some (rCfgCtl s)
  | 0x09 => some s.cfg.ref
  | 0x0A => some s.cfg.crc
  | 0x0B => some s.cfg.epoch
  | 0x0C => some (rFence s)
  | 0x10 => some (s.pwr.blkReq.setWidth 32)
  | 0x11 => some (rBlkIdle s)
  | 0x12 => some (rRstCause s)
  | 0x14 => some (rPwrState s)
  | 0x18 => some (rHwCtl s)
  | 0x19 => some (rHwStat s)
  | 0x1A => some (rHwMsg s)
  | 0x1B => some (rFltPin s)
  | 0x1C => some (rSafeCtl s)
  | 0x20 => some (s.hay.alertEn.setWidth 32)
  | 0x21 => some (BitVec.ofNat 32 (alertSrc s))
  | 0x24 => some (rTickStat s)
  | 0x25 => some (rTickTrim s)
  | 0x28 => some (rFallowCtl s)
  | 0x29 => some (rFallowStat s)
  | 0x2C => some (rNvmCtl s)
  | 0x2D => some (rNvmStat s)
  | 0x2E => some s.nvm.data
  | 0x30 => some 0
  | 0x31 => some (rFuseStat s)
  | 0x34 => some (rUsbAcc s)
  | n => if 0x38 ≤ n ∧ n ≤ 0x3F then
           some (rdW s.stby.bkp (n - 0x38 + (if (s.win path).page then 8 else 0)))
         else none

/-! ### Hub ports (R264, R270, R300) -/

def UState.code : UState → Nat
  | .poweredOff => 0
  | .disconnected => 1
  | .disabled => 2
  | .enabled => 3
  | .suspended => 4
  | .resuming => 5
  | .reset => 6
  | .error => 7

def speedCode : Speed → Nat
  | .none => 0
  | .low => 1
  | .full => 2
  | .high => 3

/-- A protection latch holds port n off (R269, R491). -/
def latched (s : State) (n : Nat) : Bool := (s.port n).latch ≠ .none

/-- wPortStatus; the places of the bits are those of USB 2.0 (log 15). Port 17 always reads powered (R268). -/
def portStatus (s : State) (n : Nat) : Nat :=
  let h := s.hubPort n
  let conn := h.st ≠ .poweredOff && h.st ≠ .disconnected
  let en := h.st = .enabled || h.st = .suspended || h.st = .resuming
  flagsW [conn, en, h.st = .suspended || h.st = .resuming,
    decide (n < 16) && h.st = .poweredOff && latched s n, h.st = .reset, false, false, false,
    h.st ≠ .poweredOff || n = 16, en && h.speed = .low, en && h.speed = .high, h.test ≠ 0]
/-- wPortChange. -/
def portChange (s : State) (n : Nat) : Nat :=
  let h := s.hubPort n
  flagsW [h.cConn, h.cEn, h.cSusp, h.cOc, h.cRst]

/-- Words 192 to 196 of port block n. -/
def usbPortWord (s : State) (n k : Nat) : W :=
  let h := s.hubPort n
  match k with
  | 192 => mkW [(0, 4, h.st.code), (4, 2, speedCode h.speed), (6, 1, b2n (s.ttPlot n).isSome),
      (8, 6, (s.ttPlot n).getD 63)]
  | 193 => mkW [(0, 16, portStatus s n), (16, 16, portChange s n)]
  | 194 => mkW [(0, 16, h.resets), (16, 16, h.errors)]
  | 195 => mkW [(0, 16, h.retries), (16, 16, h.npFail)]
  | 196 => mkW [(0, 16, h.perMiss)]
  | _ => 0

/-- The headgate status words (R301). -/
def hubWord (s : State) (k : Nat) : W :=
  let h := s.hub
  match k with
  | 0 => mkW [(0, 2, h.speed), (2, 4, flagsW [h.vbus, h.pullup, h.susp, h.configured]), (6, 7, h.addr.toNat),
      (13, 2, flagsW [h.rwake, h.mtt]), (16, 1, b2n h.fConfigured), (17, 7, h.fAddr.toNat),
      (24, 2, flagsW [h.fRwake, h.fSusp])]
  | _ => mkW [(0, 16, h.busResets), (16, 16, h.suspends)]

/-! ### Port power words (R497) -/

def PState.code : PState → Nat
  | .off => 0
  | .ramp => 1
  | .on => 2
  | .discharge => 3

def Latch.code : Latch → Nat
  | .none => 0
  | .ovp => 1
  | .ocp => 2
  | .rcp => 3
  | .openV => 4
  | .openI => 5
  | .slowOc => 6
  | .safe => 7

def portWord (s : State) (n k : Nat) : W :=
  let p := s.port n
  match k with
  | 65 => mkW [(0, 2, p.st.code), (2, 5, flagsW [p.pendOn, p.forceOff, p.hostOn, p.rail, p.railBusy.isSome]),
      (8, 3, p.latch.code), (11, 4, flagsW [p.classifying, p.vOpen, p.iOpen, p.uv]), (16, 16, min 65535 (s.tick.now - p.since))]
  | 66 => p.evt.setWidth 32
  | 67 => mkW [(0, 12, p.v.code), (12, 3, p.v.reason), (16, 12, p.i.code), (28, 3, p.i.reason)]
  | 68 => mkW [(0, 16, p.vMv), (16, 16, (p.iMa % 65536).toNat)]
  | 69 => mkW [(0, 8, p.trips.toNat), (8, 8, p.opens.toNat), (16, 8, p.rampFails.toNat), (24, 8, p.setDrops.toNat)]
  | 70 => p.tripTick
  | _ => 0

/-! ### Culvert and tandem words (R396, R397, R435) -/

/-- Whether LATNk (k < 8) or PFAIL_IN (k = 8) is asserted under the running routing matrix (R386, R398). -/
def attnAsserted (s : State) (k : Nat) : Bool :=
  let lvl := if k = 8 then s.culvs.pfail else s.culvs.latn.getLsbD k
  lvl = (rdW s.cfg.route (0x70000 + 9)).bit k

/-- Cn_DE is high (R369). -/
def deHigh (k : Culv) : Bool := k.ser = .sending

def culvWord (s : State) (c k : Nat) : W :=
  let v := s.culv c
  match k with
  | 512 => mkW [(0, 4, flagsW [if c = 0 then s.culvs.bus.held else deHigh v, decide (c = 0) && s.culvs.bus.lockOwn,
        decide (c = 0) && s.culvs.bus.lockForeign, decide (c = 0) && s.culvs.bus.granting]),
      (8, 8, min 255 (v.ops.filter (fun o => o.stat = .waiting && !o.closed)).length),
      (16, 16, ((openEntries s).filter (fun e => e.2.culv = c + 1 && e.2.kind ≠ .split)).length)]
  | 513 => v.evt.setWidth 32
  | 514 => mkW [(0, 16, v.okCnt.toNat), (16, 16, v.failCnt.toNat)]
  | 515 => mkW [(0, 8, v.retries.toNat), (8, 8, v.nullCyc.toNat), (16, 8, v.pfHits.toNat), (24, 8, v.yields.toNat)]
  | 516 => mkW [(0, 18, v.lastFar.toNat), (18, 4, v.farDetail)]
  | _ => 0

def noSem : Sem := ⟨0, 0, 0, 0, 0, false⟩

/-- The two words of semaphore x of culvert c (R397); a free semaphore reads 0. -/
def semWord (s : State) (c x k : Nat) : W :=
  match (s.culv c).sems.find? (fun e => e.1 = x) with
  | none => 0
  | some (_, m) => if k = 0 then
      mkW [(0, 1, 1), (1, 7, m.holder), (8, 4, m.ep), (16, 16, min 65535 (s.tick.now - m.since))]
    else mkW [(0, 15, m.base), (15, 13, m.len1)]

def attnWord (s : State) : W :=
  mkW [(0, 9, flagsW ((List.range 9).map (attnAsserted s))), (16, 9, s.culvs.latnEdge.toNat)]

def TandSt.code : TandSt → Nat
  | .off => 0
  | .listen => 1
  | .follower => 2
  | .keeper => 3
  | .fenced => 4

/-- Forwarded operations that are open: the follower's own, and the keeper's for its partner (R418, R435). -/
def partnerOpen (s : State) : Nat :=
  (s.tand.fwd.filter (fun f => f.1 < 0x4000)).length + (s.tand.toSend.filter (fun f => f.1 < 0x4000)).length
    + ((openEntries s).filter (fun e => e.2.req = 0x59 && e.2.kind ≠ .mirrored)).length

def tandWord (s : State) (k : Nat) : W :=
  let t := s.tand
  match k with
  | 520 => mkW [(0, 3, t.st.code), (3, 2, flagsW [t.linkUp, t.mirrored]), (8, 8, min 255 t.hbSilent),
      (16, 8, min 255 t.linkSilent)]
  | 521 => t.evt.setWidth 32
  | 522 => mkW [(0, 8, t.crcErr.toNat), (8, 8, t.retx.toNat), (16, 8, t.dups.toNat), (24, 8, t.takeovers.toNat)]
  | 523 => mkW [(0, 16, t.txSeq.toNat), (16, 16, t.rxSeq.toNat)]
  | 524 => mkW [(0, 16, t.mirror.length), (16, 16, partnerOpen s)]
  | _ => 0

/-! ### PD mailbox words (R537 to R539) -/

def TcSt.code : TcSt → Nat
  | .disabled => 0
  | .unattached => 1
  | .attachWait => 2
  | .attached => 3
  | .audio => 4
  | .debug => 5
  | .errorRecovery => 6
  | .ccFault => 7

def ccCode : CcLevel → Nat
  | .open => 0
  | .ra => 1
  | .rd => 2
  | .over => 3

/-- TX_BUSY: a SEND is pending or in progress (R539). -/
def txBusy (t : TcPort) : Bool := t.phy ≠ .idle

/-- Bytes as words, four per word, the first in [7:0]. -/
def packBytes : List Byte → List W
  | a :: b :: c :: d :: l => W.ofBytes a b c d :: packBytes l
  | [] => []
  | [a] => [W.ofBytes a 0 0 0]
  | [a, b] => [W.ofBytes a b 0 0]
  | [a, b, c] => [W.ofBytes a b c 0]

def rxSlotWord (m : RxMsg) (k : Nat) : W :=
  if k = 0 then mkW [(0, 2, m.sop), (8, 5, m.bytes.length), (16, 16, m.tick.toNat)]
  else if k < 9 then (packBytes m.bytes).getD (k - 1) 0 else 0

def pdWord (s : State) (t k : Nat) : W :=
  let q := s.tc t
  match k with
  | 0 => mkW [(0, 3, q.st.code), (3, 1, b2n q.orient), (4, 2, q.rpNow), (6, 2, flagsW [q.vconn, q.want]),
      (8, 2, ccCode q.cc1), (10, 2, ccCode q.cc2), (12, 2, flagsW [q.hrBusy, q.sinkNg])]
  | 1 => q.evt.setWidth 32
  | 3 => mkW [(0, 1, b2n (txBusy q)), (1, 3, q.txResult), (4, 2, q.txTries), (6, 2, q.txSop), (8, 3, q.txId),
      (11, 1, b2n q.txEp4), (12, 4, q.refuseWhy)]
  | 4 => mkW [(0, 4, q.rxCount), (4, 3, q.rxHead), (8, 8, q.rxDrops.toNat), (16, 8, q.dups.toNat)]
  | 5 => mkW [(0, 8, q.txFails.toNat), (8, 8, q.retries.toNat), (16, 8, q.hrCount.toNat), (24, 8, q.rxCrcErr.toNat)]
  | 8 => q.txDesc
  | k => if 9 ≤ k ∧ k ≤ 16 then q.txBytes.getD (k - 9) 0
    else if 32 ≤ k ∧ k < 160 then rxSlotWord (q.rxSlots.getD ((k - 32) / 16) ⟨0, 0, []⟩) ((k - 32) % 16)
    else 0

/-! ### Status blocks of the plot table region (R255, R341, R461, R606) and of the field (R62 to R64) -/

def sPktWords (q : Sluice) : Nat := (q.pkts.map (fun p => p.words.length)).sum
def sOpenWords (q : Sluice) : Nat :=
  match q.opn with
  | some o => o.words.length
  | none => 0
/-- Stages the current claim holds and has not written (R309). -/
def sClaimed (q : Sluice) : Nat :=
  match q.opn with
  | some o => o.claim.len - o.words.length
  | none => 0
/-- The producer of the open packet: the claimant in a sluice A, the plot itself in a sluice B (R303). -/
def sProducer (i : Nat) (q : Sluice) : Nat :=
  match q.opn with
  | some o => if i % 2 = 1 && i < 126 then i / 2 else o.claim.peer
  | none => 0x7F

def sluiceWord (s : State) (i k : Nat) : W :=
  let q := s.sluice i
  if k = 0 then
    mkW [(0, 6, sPktWords q), (6, 6, sOpenWords q), (12, 6, sClaimed q), (18, 7, sProducer i q),
      (25, 3, flagsW [!q.claims.isEmpty, q.claims.any (fun c => c.cls = .spate), q.held])]
  else mkW [(0, 8, q.rewinds.toNat), (8, 8, q.stales.toNat), (16, 8, q.underruns.toNat), (24, 8, q.drops.toNat)]

/-- The index of the next sample to fall due: the smallest whole number not below the position (R442). -/
def nextIndex (c : Stream) : Nat := (c.pos + 65535) / 65536 + c.due

/-- ADJ in effect, after clamping (R451). -/
def adjNow (s : State) (k : Nat) : W :=
  match s.cadPlot k with
  | some p => clampAdj (cadAdjLim (s.plot p).wc p) (s.cad k).adj
  | none => (s.cad k).adj

/-- ACTIVE: the stream was started and its plot's parameters can run (R442, R459). -/
def cadWord (s : State) (k i : Nat) : W :=
  let c := s.cad k
  match i with
  | 0 => BitVec.ofNat 32 c.rate
  | 1 => adjNow s k
  | 2 => BitVec.ofNat 32 (nextIndex c)
  | 3 => mkW [(0, 6, (s.cadPlot k).getD 63), (6, 3, flagsW [c.running && !c.paramErr && (s.cadPlot k).isSome, c.paramErr, c.clamped])]
  | 4 => mkW [(0, 16, c.late.toNat), (16, 16, c.failed.toNat)]
  | 5 => mkW [(0, 16, c.missed.toNat), (16, 16, c.senseInv.toNat)]
  | 6 => mkW [(0, 16, c.lost.toNat), (16, 16, c.packets.toNat)]
  | _ => 0

def fallowWord (s : State) (k : Nat) : W :=
  let f := s.field
  match k with
  | 0 => BitVec.ofNat 32 (maskOf f.failed)
  | 1 => BitVec.ofNat 32 (maskOf f.failed / 2 ^ 32)
  | 2 => BitVec.ofNat 32 (maskOf ((List.range 63).filter (fun p => (s.plot p).stranded)))
  | 3 => BitVec.ofNat 32 (maskOf ((List.range 63).filter (fun p => (s.plot p).stranded)) / 2 ^ 32)
  | 4 => mkW [(0, 21, min (2 ^ 20) f.counter), (21, 1, b2n f.due), (24, 3, s.phaseNow), (28, 4, f.refuseWhy)]
  | 5 => mkW [(0, 16, f.testsPassed.toNat), (16, 16, f.swaps.toNat)]
  | 6 => f.lastSig
  | 7 => mkW [(0, 12, s.adc.zMean), (16, 12, s.adc.rMean), (28, 2, flagsW [s.adc.valid, s.adc.trim])]
  | 8 => mkW [(0, 8, s.adc.fails.toNat), (8, 8, f.shadowMis.toNat), (16, 12, f.retired.length)]
  | 9 => mkW [(0, 16, f.failWord), (16, 2, flagsW [f.failValid, f.memAborted])]
  | _ => 0

/-- CUR_PLOT and CUR_PHASE (R255). -/
def curUpdate (s : State) : Nat × Nat :=
  match s.cfg.load with
  | some (p, _, _) => (p, 1)
  | none =>
    match s.field.shadow with
    | some h => if h.why = .update then (h.plot, 2) else (63, 0)
    | none => (63, 0)

/-- WINDOW_LEFT: 0 while closed and in STARTUP (R255). -/
def windowLeft (s : State) : Nat :=
  if s.cfg.isOpen && s.pwr.phase ≠ .startup then 4096 - s.cfg.window else 0

def commitWord (s : State) (k : Nat) : W :=
  match k with
  | 0 => mkW [(0, 7, s.cfg.pend.length), (7, 2, flagsW [s.cfg.checking, s.cfg.openWait]), (9, 6, (curUpdate s).1),
      (15, 2, (curUpdate s).2), (17, 6, s.cfg.failPlot)]
  | 1 => s.cfg.targetEpoch
  | 2 => BitVec.ofNat 32 (maskOf s.cfg.pend)
  | 3 => BitVec.ofNat 32 (maskOf s.cfg.pend / 2 ^ 32)
  | 4 => BitVec.ofNat 32 (maskOf s.cfg.stuck)
  | 5 => BitVec.ofNat 32 (maskOf s.cfg.stuck / 2 ^ 32)
  | 6 => BitVec.ofNat 32 (windowLeft s)
  | _ => 0

def FState.code : FState → Nat
  | .carrying => 0
  | .fallow => 1
  | .shadowing => 2
  | .failed => 3

def plotStatusWord (s : State) (p k : Nat) : W :=
  let q := s.plot p
  match k with
  | 0 => mkW [(0, 4, s.role p), (4, 6, q.furrow), (10, 2, flagsW [q.shadowed, q.fenced]), (16, 16, q.epoch.toNat)]
  | 1 => mkW [(0, 16, q.lastUsed), (16, 16, q.lastSpate)]
  | 2 => mkW [(0, 16, q.peakUsed), (16, 16, q.peakSpate)]
  | _ => mkW [(0, 16, q.ovrCnt), (16, 8, q.spxCnt)]

def fieldWord (s : State) (k : Nat) : W :=
  if k = 0 then s.tick.count
  else if 0x40 ≤ k ∧ k < 0x80 then
    let m := s.field.map.getD (k - 0x40) ⟨63, .fallow⟩
    mkW [(0, 6, m.plot), (6, 2, m.fst.code)]
  else if 0x100 ≤ k ∧ k < 0x100 + 4 * 63 then plotStatusWord s ((k - 0x100) / 4) ((k - 0x100) % 4)
  else 0

/-! ### Ledger view and severity view (R399, R577) -/

def Close.code : Close → Nat
  | .ok => 0
  | .errFar => 1
  | .timeout => 2
  | .cancelled => 3
  | .cancelledLate => 4
  | .errUncertain => 5
  | .poisoned => 6

def EKind.code : EKind → Nat
  | .split => 0
  | .culvert => 1
  | .prefetch => 2
  | .mirrored => 3

/-- Ticks until the ledger timeout of an open entry. -/
def entryLeft (s : State) (e : Entry) : Nat := if e.opn then min 65535 (e.openAt + e.limit - s.tick.now) else 0

def ledgerWord (s : State) (i k : Nat) : W :=
  let e := s.entry i
  match k with
  | 0 => mkW [(0, 1, b2n e.opn), (1, 3, e.close.code), (4, 2, classCode e.cls), (6, 2, e.kind.code), (8, 7, e.owner),
      (15, 7, e.req), (22, 2, e.culv), (24, 8, e.tag)]
  | 1 => e.openTick.setWidth 32
  | 2 => e.target.setWidth 32
  | _ => mkW [(0, 2, e.attempts), (8, 8, e.done), (16, 16, entryLeft s e)]

/-- Counted events within the effective window that ends at the current tick. -/
def recent (s : State) (c : Nat) : Nat :=
  ((s.src c).stamps.filter (fun t => decide (s.tick.now - t < effW s c))).length

def holdLeft (s : State) (q : SrcSt) : Nat :=
  if q.severe then
    match q.hold with
    | some e => min 65535 (e - s.tick.now)
    | none => 65535
  else 0

def severityWord (s : State) (c : Nat) : W :=
  if listedSource c then
    let q := s.src c
    mkW [(0, 1, b2n q.severe), (1, 4, min 15 (recent s c)), (8, 16, holdLeft s q), (24, 8, q.entries.toNat)]
  else 0

/-! ### The indirect space (R174) -/

/-- The word at an indirect address: its data, whether a region holds it, and whether a commons word reads with
outcome POISON (R638). -/
def indRead (s : State) (a : Nat) : Rd :=
  let w (x : W) : Rd := ⟨x, true, false⟩
  if covered a then w (rdW s.cfg.space a)
  else if a < 0x8000 then
    if 0x7800 ≤ a ∧ a < 0x7900 then w (sluiceWord s ((a - 0x7800) / 2) (a % 2))
    else if 0x7A00 ≤ a ∧ a < 0x7A40 then w (cadWord s ((a - 0x7A00) / 8) (a % 8))
    else if 0x7C00 ≤ a ∧ a < 0x7C0A then w (fallowWord s (a - 0x7C00))
    else if 0x7F00 ≤ a ∧ a < 0x7F07 then w (commitWord s (a - 0x7F00))
    else w 0
  else if a < 0x8200 then w (fieldWord s (a - 0x8000))
  else if 0x10000 ≤ a ∧ a < 0x20000 then w 0
  else if 0x20000 ≤ a ∧ a < 0x21000 then
    let n := (a - 0x20000) / 256
    let k := a % 256
    w (if 192 ≤ k then usbPortWord s n k else portWord s n k)
  else if 0x30000 ≤ a ∧ a < 0x31000 then
    let c := (a - 0x30000) / 1024
    let k := a % 1024
    if c < 3 then w (if c = 0 ∧ 520 ≤ k then tandWord s k else culvWord s c k)
    else if k < 0x30 then w (semWord s (k / 16) (k % 16 / 2) (k % 2))
    else if k = 0x40 then w (attnWord s)
    else w 0
  else if 0x40000 ≤ a ∧ a < 0x41000 then w (pdWord s ((a - 0x40000) / 1024) (a % 1024))
  else if 0x50000 ≤ a ∧ a < 0x51000 then w 0
  else if 0x60000 ≤ a ∧ a < 0x70000 then w (ledgerWord s ((a - 0x60000) / 4) (a % 4))
  else if 0x70000 ≤ a ∧ a < 0x71000 then w 0
  else if 0x80000 ≤ a ∧ a < 0x80200 then w (rdW s.stby.sram (a - 0x80000))
  else if 0x90000 ≤ a ∧ a < 0x91000 then
    let k := a - 0x90000
    if k < 512 then w (rdW s.nvm.opt k)
    else if k = 0x800 ∨ k = 0x801 then w (hubWord s (k - 0x800))
    else if 0x900 ≤ k ∧ k < 0x980 then w (severityWord s (k - 0x900))
    else w 0
  else if 0x100000 ≤ a ∧ a < 0x110000 then
    let c := s.cword (a - 0x100000)
    ⟨c.data, true, c.poison || c.err = .double⟩
  else ⟨0, false, false⟩

end Sys2Proof.Machine
end

