-- ==== Sys2Proof/Machine/SluiceOps.lean ====
section
/-!
DEFINITION. The shared operations of the sluices (chapter 7): binding, tags, claims, writing, packing, committing,
taking, rewinding.
-/

namespace Sys2Proof.Machine

/-! ### Binding (R340) -/

/-- The half of SLUICE_BIND of sluice i; sluices 126 and 127 run with STALE 255, EMPTY 1. -/
def bindHalf (s : State) (i : Nat) : Nat :=
  if 126 ≤ i then 0x1FF
  else
    let w := cSluiceBind (s.plot (i / 2)).wc (i / 2)
    if i % 2 = 0 then w.bits 15 0 else w.bits 31 16
def sStale (s : State) (i : Nat) : Nat := orElse0 (bindHalf s i % 256) 255
def sEmptyIdle (s : State) (i : Nat) : Bool := (bindHalf s i).testBit 8
def sPack (s : State) (i : Nat) : Bool := i % 2 = 0 && (bindHalf s i).testBit 9
def sSpateSt (s : State) (i : Nat) : Nat := if i % 2 = 0 then min 8 (bindHalf s i / 2 ^ 11 % 16) else 0

/-- An event from the plot a sluice is bound to; the test sluices have none (R302). -/
def raiseBound (i kind : Nat) (s : State) : State := if 126 ≤ i then s else raisePlot (i / 2) kind i s

/-! ### Tags (R305 to R307) -/

def noWord : SWord := ⟨0, 3, 3, false, false, true, false, 0x7F, false⟩
def idleWord : SWord := ⟨0, 3, 3, false, true, false, false, 0x7F, false⟩

/-- The tag bits but PAR. -/
def tagBits (w : SWord) : Nat :=
  w.pos + 4 * w.vb + 16 * b2n w.poison + 32 * b2n w.idle + 64 * b2n w.under + 128 * b2n w.trunc + 512 * w.peer

def onesOf (n k : Nat) : Nat := ((List.range k).filter (fun i => n.testBit i)).length

/-- Odd parity over the 32 data bits and the other 15 tag bits. -/
def parOf (w : SWord) : Bool := (onesOf w.data.toNat 32 + onesOf (tagBits w) 16) % 2 = 0

/-- The 16-bit tag; a word whose stored parity is wrong shows PAR inverted. -/
def tagOf (w : SWord) : Nat := tagBits w + 256 * b2n (parOf w != w.parBad)

/-! ### Claims (R309 to R311) -/

/-- A claim of class cls and length len fits the free stages now. -/
def claimFits (s : State) (i : Nat) (c : SClaim) : Bool :=
  let q := s.sluice i
  q.opn.isNone && !q.held
    && decide (c.len + (if c.cls = .spate then 0 else sSpateSt s i) + sPktWords q ≤ 32)

/-- The waiting claim whose turn it is: Spate before the others, then the oldest (R310). -/
def nextClaim (l : List SClaim) : Option SClaim :=
  match l.find? (fun c => c.cls = .spate) with
  | some c => some c
  | none => l.head?

/-- R311: refused at once. -/
def claimLong (s : State) (i : Nat) (c : SClaim) : Bool :=
  decide (32 < c.len) || (c.cls ≠ .spate && decide (32 < c.len + sSpateSt s i))

def openPacket (c : SClaim) : SOpen := ⟨c, [], 0, []⟩

/-- Claim sluice i: refused, granted at once, or queued. -/
def claimSluice (i : Nat) (c : SClaim) (s : State) : State :=
  if claimLong s i c then raiseBound i 0x10 s
  else if nextClaim ((s.sluice i).claims ++ [c]) = some c && claimFits s i c && !(s.sluice i).claims.contains c then
    s.onSluice i (fun q => { q with opn := some (openPacket c) })
  else s.onSluice i (fun q => { q with claims := q.claims ++ [c] })

/-- Grant the waiting claim whose turn it is, when it fits. -/
def grantSluice (i : Nat) (s : State) : State :=
  match nextClaim (s.sluice i).claims with
  | some c => if claimFits s i c then
      s.onSluice i (fun q => { q with opn := some (openPacket c), claims := q.claims.erase c })
    else s
  | none => s

/-! ### Packing (R323 to R325) -/

/-- Producers of 12-bit words: the sense ADC and the C1 controller (R308). -/
def narrowPeer (peer : Nat) : Bool := peer = 0x58 || peer = 0x51

/-- The bit stream of a packet's culvert words, as a number. -/
def packStream : List (BitVec 12 × Bool × Bool) → Nat
  | [] => 0
  | (v, _) :: l => v.toNat + 4096 * packStream l

/-- Some culvert word whose bits reach into read word i carries a mark. -/
def packPoison (l : List (BitVec 12 × Bool × Bool)) (i : Nat) : Bool :=
  (List.range l.length).any (fun k => (l.getD k (0, false, false)).2.1 && (12 * k / 32 = i || (12 * k + 11) / 32 = i))

/-- The PAR of read word i is stored inverted: the culvert word that came with the injection ends in it. -/
def packBad (l : List (BitVec 12 × Bool × Bool)) (i : Nat) : Bool :=
  (List.range l.length).any (fun k => (l.getD k (0, false, false)).2.2 && (12 * k + 11) / 32 = i)

/-- The first n read words of a packed packet. -/
def packWords (l : List (BitVec 12 × Bool × Bool)) (n peer : Nat) : List SWord :=
  (List.range n).map (fun i =>
    ⟨BitVec.ofNat 32 (packStream l / 2 ^ (32 * i)), 0, 3, packPoison l i, false, false, false, peer, packBad l i⟩)

/-- The last read word's VB: its valid bytes less one (R323, R324). -/
def packVb (n : Nat) : Nat := ((3 * n + 1) / 2 + 3) % 4

/-! ### Commit and write (R312, R313, R315, R331) -/

/-- POS of word k of n, with the VB and TRUNC of the last (R305). -/
def markPos (n vb : Nat) (trunc : Bool) (k : Nat) (w : SWord) : SWord :=
  if k + 1 = n then { w with pos := if n = 1 then 3 else 2, vb := vb, trunc := trunc }
  else { w with pos := if k = 0 then 1 else 0, vb := 3, trunc := false }

def markWords (l : List SWord) (vb : Nat) (trunc : Bool) : List SWord :=
  (List.range l.length).zipWith (fun k w => markPos l.length vb trunc k w) l

/-- Commit the open packet with the words it has; an empty one is freed. -/
def commitPacket (vb : Nat) (trunc : Bool) (q : Sluice) : Sluice :=
  match q.opn with
  | none => q
  | some o =>
    let n := o.part.length
    let ws := if n = 0 then o.words else packWords o.part ((12 * n + 31) / 32) o.claim.peer
    let v := if n = 0 then vb else packVb n
    if ws.isEmpty then { q with opn := none }
    else { q with opn := none, pkts := q.pkts ++ [⟨o.claim.cls, markWords ws v trunc⟩] }

/-- A claim of the producer `peer` waits on sluice i, so that what the producer would carry there waits too (R328). -/
def claimWaits (s : State) (i peer : Nat) : Bool := (s.sluice i).claims.any (fun c => c.peer = peer)

/-- Free the open packet with its claim and count it (R330). -/
def rewindPacket (q : Sluice) : Sluice :=
  if q.opn.isSome then { q with opn := none, stagedWr := [], rewinds := q.rewinds + 1 } else q

/-- The read words the open packet would have after one more write. -/
def openAfter (pack : Bool) (o : SOpen) : Nat :=
  if pack && narrowPeer o.claim.peer then (12 * (o.part.length + 1) + 31) / 32 else o.words.length + 1

/-- The field injection of a source is armed at this target (R572). -/
def armed (s : State) (c sel : Nat) : Bool :=
  s.hay.injArm && srcInj s.cfg.hwTable c && srcInjSel s.cfg.hwTable c = sel
/-- The one injection of an arming is spent (R572). -/
def disarm (s : State) : State := s.onHay (fun h => { h with injArm := false })

/-- One word into the open packet of sluice i: packed, narrow or plain (R322 to R325); a write beyond the claim
rewinds it (R331). -/
def writeSluice (i : Nat) (x : SWrite) (s : State) : State :=
  match (s.sluice i).opn with
  | none => s
  | some o =>
    let inj := armed s 0x64 i
    let s1 := if inj then disarm s else s
    if o.claim.len < openAfter (sPack s i) o then raiseBound i 0x10 (s.onSluice i rewindPacket)
    else if sPack s i && narrowPeer o.claim.peer then
      let part := o.part ++ [(x.data.setWidth 12, x.poison, inj)]
      let o' : SOpen := { o with part := part, words := packWords part (12 * part.length / 32) o.claim.peer, stale := 0 }
      s1.onSluice i (fun q =>
        let q := { q with opn := some o' }
        if x.last then commitPacket 3 false q else q)
    else
      let narrow := narrowPeer o.claim.peer && i % 2 = 0
      let d : W := if narrow then (x.data.setWidth 12).setWidth 32 else x.data
      let w : SWord := ⟨d, 0, 3, x.poison, false, false, false, o.claim.peer, inj⟩
      let vb := if narrow then 1 else x.vb
      s1.onSluice i (fun q =>
        let q := { q with opn := some { o with words := o.words ++ [w], stale := 0 } }
        if x.last then commitPacket vb false q else q)

/-! ### Taking (R317, R318, R321, R326, R334) -/

/-- All committed words, oldest first. -/
def sWords (q : Sluice) : List SWord := q.pkts.flatMap SPkt.words

/-- Words left of a packet partly taken once n words are gone from the head; 0 at a packet's edge. -/
def leftAt : List SPkt → Bool → Nat → Nat
  | [], _, _ => 0
  | p :: ps, part, n =>
    if n < p.words.length then (if part || n ≠ 0 then p.words.length - n else 0)
    else leftAt ps false (n - p.words.length)

/-- Free n words at the head. -/
def freeWords : List SPkt → Bool → Nat → List SPkt × Bool
  | [], _, _ => ([], false)
  | p :: ps, part, n =>
    if n < p.words.length then ({ p with words := p.words.drop n } :: ps, part || n ≠ 0)
    else freeWords ps false (n - p.words.length)

def freeHead (n : Nat) (q : Sluice) : Sluice :=
  { q with pkts := (freeWords q.pkts q.partly n).1, partly := (freeWords q.pkts q.partly n).2 }

/-- Change the committed word at index n. -/
def onWord (f : SWord → SWord) : List SPkt → Nat → List SPkt
  | [], _ => []
  | p :: ps, n =>
    if n < p.words.length then { p with words := updNth p.words n f } :: ps
    else p :: onWord f ps (n - p.words.length)

/-- The word an empty sluice answers (R326). -/
def emptyWord (s : State) (i : Nat) : SWord :=
  if sEmptyIdle s i then idleWord
  else match (s.sluice i).lastWord with
    | some w => { w with under := true, parBad := false }
    | none => noWord

/-- The item of the plot a sluice is bound to is under way, so that what it takes and writes is staged. -/
def itemOf (s : State) (i : Nat) : Bool := decide (i < 126) && (s.plot (i / 2)).running.isSome

/-- The head packet of a sluice B that names a plot goes by transfer and to no other consumer (R303, R319). -/
def forPlot (i : Nat) (w : SWord) : Bool := i % 2 = 1 && decide (w.peer < 63)

/-- TAKE from sluice i. A plot's TAKEs from its sluice A are staged; every other frees its stage at once. -/
def takeSluice (i : Nat) (s : State) : State :=
  let q := s.sluice i
  match (sWords q)[q.staged]? with
  | none => s.onSluice i (fun q => { q with out := some (emptyWord s i), underruns := q.underruns + 1 })
  | some w =>
    if forPlot i w then s else
    let w' := if w.parBad then { w with poison := true, parBad := false } else w
    let s1 := s.onSluice i (fun q =>
      let q := { q with pkts := onWord (fun _ => w') q.pkts q.staged, lastWord := some w', out := some w' }
      if i % 2 = 0 && itemOf s i then { q with staged := q.staged + 1 } else freeHead 1 q)
    if w.parBad then raise ⟨0x64, 0x12, 32 * i + (Config.sluiceStage s.free).toNat⟩ s1.took else s1

/-- Take n words from sluice i. -/
def takeWords (i n : Nat) (s : State) : State := forEach (List.range n) (fun _ => takeSluice i) s

/-- The oldest packet of sluice i that the item under way has not taken. -/
def headPacket (q : Sluice) : Option SPkt := (freeWords q.pkts q.partly q.staged).1.head?

/-- Drop the rest of a partly taken packet. -/
def dropSluice (i : Nat) (s : State) : State :=
  s.onSluice i (fun q =>
    let k := leftAt q.pkts q.partly q.staged
    if k = 0 then q
    else if i % 2 = 0 && itemOf s i then { q with staged := q.staged + k, stagedDrop := q.stagedDrop + 1 }
    else { freeHead k q with drops := q.drops + 1 })

/-- The staged takes and writes of plot Pp's item take effect (R316, R318). -/
def settleSluices (p : Nat) (s : State) : State :=
  let s1 := s.onSluice (2 * p) (fun q =>
    { freeHead q.staged q with staged := 0, stagedDrop := 0, drops := q.drops + BitVec.ofNat 8 q.stagedDrop })
  let l := (s1.sluice (2 * p + 1)).stagedWr
  forEach l (writeSluice (2 * p + 1)) (s1.onSluice (2 * p + 1) (fun q => { q with stagedWr := [] }))

/-- Roll back what plot Pp's item staged (R51, R318, R330): the head returns, the open packet is rewound. -/
def rollSluices (p : Nat) (s : State) : State :=
  (s.onSluice (2 * p) (fun q => { q with staged := 0, stagedDrop := 0 })).onSluice (2 * p + 1)
    (fun q => { rewindPacket q with stagedWr := [] })

/-- A boundary passes for every open packet (R332). -/
def ageSluices (m : Store Sluice) : Store Sluice :=
  mapStore Sluice.empty (fun _ q => { q with opn := q.opn.map (fun o => { o with stale := o.stale + 1 }) }) m

/-- Rewind the open packets whose producer `peer` is reset (R339). -/
def rewindPeer (peer : Nat → Bool) (s : State) : State :=
  s.onSluices (mapStore Sluice.empty (fun i q =>
    match q.opn with
    | some o => if i % 2 = 0 && peer o.claim.peer then rewindPacket q else q
    | none => q))

/-- A sluice with nothing in it; its counts stay (R337). -/
def emptySluice (q : Sluice) : Sluice :=
  { q with pkts := [], partly := false, opn := none, claims := [], staged := 0, stagedDrop := 0, stagedWr := [] }

/-- R338: the sluices of a severe plot. -/
def seizeSluices (p : Nat) (s : State) : State :=
  (s.onSluice (2 * p) (fun q =>
      { rewindPacket q with pkts := [], partly := false, staged := 0, stagedDrop := 0, held := true })).onSluice
    (2 * p + 1) (fun q =>
      { rewindPacket q with
        pkts := q.pkts.map (fun k => { k with words := k.words.map (fun w => { w with poison := true }) })
        stagedWr := [], held := true })

def freeSluices (p : Nat) (s : State) : State :=
  (s.onSluice (2 * p) (fun q => { q with held := false })).onSluice (2 * p + 1) (fun q => { q with held := false })

end Sys2Proof.Machine
end

