-- ==== Sys2Proof/Machine/Frames.lean ====
section
/-!
DEFINITION. The frames of the tandem link (R404 to R410): their bytes, which received ones are valid by themselves, and
sending them in sequence.
-/

namespace Sys2Proof.Machine

/-! ### The bytes of a frame (R405, R408) -/

/-- TYPE of a sequenced frame; BEAT is 1. -/
def TFrame.type : TFrame → Nat
  | .mirror _ => 2
  | .fwdReq _ _ => 3
  | .fwdRes _ _ => 4
  | .syncBegin => 5
  | .syncEnd _ => 6
  | .syncAck _ => 7
  | .handover => 8

/-- The payload of a sequenced frame. -/
def TFrame.payload : TFrame → List W
  | .mirror l => l.flatMap (fun r => [r.1, r.2])
  | .fwdReq id ws => mkW [(0, 14, id)] :: ws
  | .fwdRes id ws => mkW [(0, 14, id)] :: ws
  | .syncEnd n | .syncAck n => [BitVec.ofNat 32 n]
  | .syncBegin | .handover => []

/-- ROLE of a sender. -/
def roleCode : TandSt → Nat
  | .off | .listen => 0
  | .follower => 1
  | .keeper => 2
  | .fenced => 3

/-- A 16-bit field, most significant byte first. -/
def be16 (v : BitVec 16) : List Byte := [v.extractLsb' 8 8, v.extractLsb' 0 8]

/-- Header and payload, which the CRC covers. -/
def linkBody (type : Nat) (flags : Byte) (seq ack len : BitVec 16) (payload : List W) : List Byte :=
  [BitVec.ofNat 8 type, flags] ++ be16 seq ++ be16 ack ++ be16 len ++ payload.flatMap frameBytes

/-- FLAGS of a frame this chip sends. -/
def linkFlags (t : Tand) : Byte := BitVec.ofNat 8 (roleCode t.st + 4 * b2n t.mirrored)

/-- A frame this chip sends; `bad` when its CRC is inverted (R572). -/
def linkFrame (bad : Bool) (t : Tand) (type : Nat) (seq : BitVec 16) (payload : List W) : List Byte :=
  let b := linkBody type (linkFlags t) seq t.rxSeq (BitVec.ofNat 16 (4 * payload.length)) payload
  b ++ be16 (if bad then ~~~(crc16 b) else crc16 b)

/-- A BEAT frame (R408). -/
def beatFrame (s : State) (p : Nat) : List Byte :=
  linkFrame false s.tand 1 s.tand.txSeq [mkW [(16, 16, tandPairId s p)], s.tick.count]

/-- A received frame: header, payload words and CRC. Its TYPE is the command's. -/
structure TLink where
  head : LinkHead
  payload : List W
  crc : BitVec 16
  deriving DecidableEq, Repr

/-- The CRC of a received frame matches, and LEN counts its payload (R407). -/
def linkSound (type : Nat) (x : TLink) : Bool :=
  let h := x.head
  x.crc = crc16 (linkBody type h.flags h.seq h.ack h.len x.payload) && h.len.toNat = 4 * x.payload.length

/-! ### Sending in sequence (R409, R410, R428) -/

/-- The injection of the TAND plot's source is armed: the CRC of the next sequenced frame is inverted (R572). -/
def tandArmed (s : State) : Bool :=
  match s.tandPlot with
  | some p => armed s (srcPlot p) 0
  | none => false

/-- This chip still sends: not in the device safe state (R567); from shutdown step 4 on only a keeper does, which hands
over, and from step 5 on nothing (R428). -/
def linkSends (s : State) : Bool :=
  !s.hay.safeDev
    && (s.pwr.phase ≠ .shutdown || decide (s.pwr.shutStep < 4) || (s.pwr.shutStep = 4 && s.tand.st = .keeper))

/-- Another sequenced frame may go: none waits, and fewer than 32 are unacknowledged. -/
def linkRoom (s : State) : Bool := decide (s.tand.unacked.length < 32) && s.tand.waiting.isEmpty

/-- A sequenced frame goes out. -/
def sendNow (f : TFrame) (s : State) : State :=
  let bad := tandArmed s
  (if bad then disarm s else s).onTand (fun t =>
    { t with
      unacked := t.unacked ++ [(t.txSeq, s.tick.now, f)], txSeq := t.txSeq + 1
      txOut := t.txOut ++ [linkFrame bad t f.type t.txSeq f.payload] })

/-- Send a sequenced frame, or hold it back while 32 are unacknowledged. -/
def sendFrame (f : TFrame) (s : State) : State :=
  if linkSends s && linkRoom s then sendNow f s else s.onTand (fun t => { t with waiting := t.waiting ++ [f] })

/-- The frames held back go out while there is room. -/
def sendWaiting : List TFrame → State → State
  | [], s => s
  | f :: l, s =>
    if linkSends s && decide (s.tand.unacked.length < 32) then
      sendWaiting l (sendNow f (s.onTand (fun t => { t with waiting := l })))
    else s

/-- Every unacknowledged frame is sent again, in order (R410). -/
def resendFrames (s : State) : State :=
  let bad := tandArmed s
  (if bad then disarm s else s).onTand (fun t =>
    { t with
      retx := t.retx + 1
      unacked := t.unacked.map (fun x => (x.1, s.tick.now, x.2.2))
      txOut := t.txOut ++ (List.range t.unacked.length).zipWith (fun i x =>
        linkFrame (bad && i = 0) t x.2.2.type x.1 x.2.2.payload) t.unacked })

end Sys2Proof.Machine
end

