-- ==== Sys2Proof/Machine/CulvOps.lean ====
section
/-!
DEFINITION. The shared operations of the culverts (chapter 8): the rack function's IN buffers, results, closing an
operation once, choosing the next one, semaphores, quiet-range buffers, and samples of timed READs (R445).
-/

namespace Sys2Proof.Machine

/-! ### Rack-function IN queues (R283, R290, R351, R436) -/

/-- The class of the work of a rack-function endpoint that plot Pp serves (R283, R299, R436). -/
def epClass (s : State) (p e : Nat) : TClass :=
  if e = 2 then .spate
  else if e = 3 then .seep
  else if (e = 1 || e = 4) && (plotW (s.plot p).wc p 10).bit e then .seep
  else .flow

/-- Words of one packet of endpoint e: its maximum packet size, or what its ring holds. -/
def maxPacketWords (s : State) (e : Nat) : Nat :=
  let n := if s.hub.speed = 2 && e ≠ 2 && e ≠ 3 then 128 else 16
  let k := (s.ep (e + 16)).k
  if k = 0 then n else min n (16 * k)

/-- Cut words into packets; `fuel` is the number of words. -/
def chopWords (n : Nat) : Nat → List W → List (List W)
  | 0, _ => []
  | fuel + 1, ws => if ws.length ≤ n then [ws] else ws.take n :: chopWords n fuel (ws.drop n)

/-- Parcels a packet of n words takes (R290). -/
def parcelsOf (words : Nat) : Nat := max 1 ((4 * words + 63) / 64)

/-- Parcels that hold the packets `l`. -/
def parcelsHeld (l : List (List W)) : Nat := (l.map (fun p => parcelsOf p.length)).sum

/-- One more packet fits behind the packets `l`: two buffers in the fixed mode, a ring of k parcels in the carved one. -/
def bufRoom (k : Nat) (l : List (List W)) (w : List W) : Bool :=
  if k = 0 then decide (l.length < 2) else decide (parcelsHeld l + parcelsOf w.length ≤ k)

/-- Packets that wait move into the buffers while they fit, oldest first. -/
def fillBufs (k : Nat) (l : List (List W)) : List (List W) → List (List W) × List (List W)
  | [] => (l, [])
  | w :: ws => if bufRoom k l w then fillBufs k (l ++ [w]) ws else (l, w :: ws)

/-- The item of endpoint e moves what waits into its buffers. -/
def fillIn (e : Nat) (s : State) : State :=
  s.onEp (e + 16) (fun q => { q with pkts := (fillBufs q.k q.pkts q.wait).1, wait := (fillBufs q.k q.pkts q.wait).2 })

/-- Work for endpoint e is ready in the plot that serves it. -/
def readyEp (e : Nat) (s : State) : State :=
  match s.funcPlot e with
  | some p => readyItem p (classCode (epClass s p e)) (epRef e) s
  | none => s

/-- A result starts a new IN packet (log 16). It waits for an item of its class, and for room (R290, R436). -/
def pushIn (e : Nat) (ws : List W) (s : State) : State :=
  readyEp e (s.onEp (e + 16) (fun q => { q with wait := q.wait ++ chopWords (maxPacketWords s e) (ws.length + 1) ws }))

/-- The buffers of endpoint e IN have room for one more packet behind those that are in them or on their way (R290,
R533). -/
def epRoom (s : State) (e : Nat) (w : List W) : Bool :=
  let q := s.ep (e + 16)
  bufRoom q.k (q.pkts ++ q.wait) w

/-! ### Units and culvert words (R372) -/

/-- Culvert words of a unit by its UNIT code: 12, 8, 16, 32 bits. -/
def unitWords (u : Nat) : Nat := if u = 2 then 2 else if u = 3 then 3 else 1
def unitBits (u : Nat) : Nat := if u = 0 then 12 else if u = 1 then 8 else if u = 2 then 16 else 32

/-- The piece that the j-th culvert word of a unit of m words carries. -/
def pieceAt (high : Bool) (m j : Nat) : Nat := if high then m - 1 - j else j

/-- The culvert words a WRITE of units carries. -/
def splitUnits (high : Bool) (u : Nat) (data : List W) : List W :=
  data.flatMap (fun v => (List.range (unitWords u)).map (fun j =>
    BitVec.ofNat 32 (v.toNat % 2 ^ unitBits u / 4096 ^ pieceAt high (unitWords u) j % 4096)))

/-- Unit k out of the culvert words read. -/
def joinUnit (high : Bool) (u : Nat) (got : List (BitVec 12)) (k : Nat) : W :=
  let m := unitWords u
  BitVec.ofNat 32 (((List.range m).map (fun j =>
    (got.getD (m * k + j) 0).toNat * 4096 ^ pieceAt high m j)).sum % 2 ^ unitBits u)

/-- Data phases or characters an operation takes on the wire. -/
def opPhases (o : COp) : Nat :=
  match o.kind with
  | .rmw => 2
  | .xfer => o.tx.length
  | .prefetch | .timed => o.count
  | .read | .write => o.count * unitWords o.unit

/-- Units completed on C1, reply bytes on C2 and C3 (R351, R399). -/
def opDone (o : COp) : Nat :=
  match o.kind with
  | .rmw => if o.done = 2 then 1 else 0
  | .xfer => o.reply.length
  | .prefetch | .timed => o.done
  | .read | .write => o.done / unitWords o.unit

/-! ### Results (R351) -/

def opCode : OpKind → Nat
  | .write => 1
  | .xfer => 2
  | .rmw => 3
  | _ => 0

/-- The two header words of a result. -/
def resultHead (tag culv op status detail attempts : Nat) (pref : Bool) (id : Option Nat) (count : Nat) : List W :=
  [mkW [(0, 8, tag), (8, 2, culv), (10, 3, op), (16, 4, status), (20, 4, detail), (24, 2, attempts),
     (26, 1, b2n pref)],
   mkW [(0, 14, id.getD 0), (14, 1, b2n id.isNone), (16, 16, count)]]

/-- The data words of a result: what was completed; none when POISONED. -/
def resultData (high : Bool) (o : COp) (r : Close) : List W :=
  if r = .poisoned then []
  else match o.kind with
    | .read => (List.range (opDone o)).map (joinUnit high o.unit o.got)
    | .rmw => if o.done = 2 then [(o.got.getD 0 0).setWidth 32] else []
    | .xfer => packBytes o.reply
    | _ => []

def resultWords (high : Bool) (o : COp) (r : Close) (detail : Nat) (pref : Bool) : List W :=
  resultHead o.tag (o.culv + 1) (opCode o.kind) r.code detail o.attempts pref (some o.id) (opDone o)
    ++ resultData high o r


/-- Give a result to its requester: an IN endpoint, or the partner in a FWD_RES frame (R351, R418). -/
def giveResult (o : COp) (ws : List W) (s : State) : State :=
  if o.mute then s
  else if o.req = 0x59 then sendFrame (.fwdRes (o.fwdId - 1) ws) s
  else pushIn o.ep ws s

/-! ### Samples of timed READs (R445, R457) -/

def setSamp (idx : W) (v : Samp) (t : STick) : STick :=
  let i := (idx - t.first).toNat
  if i < t.samps.length then { t with samps := updNth t.samps i (fun x => if x.st = .waiting then v else x) } else t

/-- A timed READ closes: its sample takes its value and state, and FAILED and LATE are counted. -/
def giveSample (o : COp) (r : Close) (s : State) : State :=
  let idx := o.data.headD 0
  let v : Samp :=
    if r = .ok then ⟨o.got.headD 0, if o.late then .late else .valid⟩ else ⟨0, .failed⟩
  s.onCad o.aux (fun c =>
    if c.ticks.any (fun t => (idx - t.first).toNat < t.samps.length && (t.samps.getD (idx - t.first).toNat ⟨0, .missed⟩).st = .waiting) then
      { c with
        ticks := c.ticks.map (setSamp idx v)
        late := if v.st = .late then c.late + 1 else c.late
        failed := if v.st = .failed then c.failed + 1 else c.failed }
    else c)

/-! ### Changing and closing operations (R345, R346, R377) -/

/-- Change the operation of ledger entry `id` and show its progress in the ledger while its entry is open. -/
def onOp (c id : Nat) (f : COp → COp) (s : State) : State :=
  let s1 := s.onCulv c (fun k => { k with ops := k.ops.map (fun o => if o.id = id then f o else o) })
  match (s1.culv c).ops.find? (fun o => o.id = id && !o.closed) with
  | some o => s1.onEntry id (fun e => if e.opn then { e with attempts := o.attempts, done := opDone o } else e)
  | none => s1

def dropOp (c id : Nat) (s : State) : State :=
  let s1 := s.onCulv c (fun k => { k with ops := k.ops.filter (fun o => o.id ≠ id) })
  s1.onCulv c (fun k =>
    if k.chainNow ≠ 0 && !k.ops.any (fun o => o.chain = k.chainNow) then { k with chainNow := 0 } else k)

/-- C1_LOCK_N is released when no chain is on the wire (R377). -/
def settleLock (c : Nat) (s : State) : State :=
  if c = 0 then s.onBus (fun b => { b with lockOwn := s.culvs.c1.chainNow ≠ 0 }) else s

def raiseCulv (c kind addr : Nat) (s : State) : State :=
  match s.culvPlot c with
  | some p => raisePlot p kind addr s
  | none => s

/-- Address of a far-side error (R390). -/
def farAddr (c a : Nat) : Nat := (c + 1) * 65536 + a % 32768

/-- LAST_FAR, FAR_DETAIL and FAR_ERR record a far-side error (R390, R396). -/
def noteFar (c a detail : Nat) (s : State) : State :=
  s.onCulv c (fun k => { k with
    evt := k.evt ||| 1, lastFar := BitVec.ofNat 18 (farAddr c a), farDetail := detail })

/-- The event of a closure (R346); `a` is the far-side address. -/
def closeEvent (c : Nat) (o : COp) (r : Close) (a : Nat) (s : State) : State :=
  match r with
  | .errFar => if o.kind = .prefetch then raiseCulv c 0x1B (farAddr c a) s else raiseCulv c 0x18 o.id s
  | .timeout => raiseCulv c 0x19 o.id s
  | .errUncertain => raiseCulv c 0x1A o.id s
  | _ => s

/-- The event flag a close reason sets (R396). -/
def closeFlag : Close → BitVec 8
  | .errFar => 1
  | .timeout => 2
  | .errUncertain => 4
  | .cancelledLate => 8
  | _ => 0

/-- A closure is counted, and its flag is set (R396). -/
def countClose (c : Nat) (r : Close) (s : State) : State :=
  s.onCulv c (fun k =>
    { k with
      evt := k.evt ||| closeFlag r
      okCnt := if r = .ok then k.okCnt + 1 else k.okCnt
      failCnt := if r = .ok then k.failCnt else k.failCnt + 1 })

/-- Close one operation: its entry, counters, flag, event and result. The operation itself stays listed where the
wire transfer runs on. A prefetch that closes other than OK leaves nothing valid in its range's buffer (R384). -/
def closeOne (c : Nat) (o : COp) (r : Close) (detail a : Nat) (pref : Bool) (s : State) : State :=
  if o.closed then s
  else
    let s1 := onOp c o.id (fun x => { x with closed := true, cancel := false }) s
    let s2 := countClose c r (closeEntry o.id r s1)
    let s3 := closeEvent c o r a s2
    match o.kind with
    | .prefetch => if r = .ok then s3 else s3.onCulv 0 (fun k => { k with bufs := k.bufs.filter (fun b => b.1 ≠ o.aux) })
    | .timed => giveSample o r s3
    | _ => giveResult o (resultWords (kHighFirst s && c = 0) o r detail pref) s3

/-- Close an entry of culvert c that has no operation in the culvert's queue: a READ still staged, or one forwarded to
the keeper (R345, R346, R396). -/
def closeLone (c id : Nat) (r : Close) (s : State) : State :=
  if (s.entry id).opn then
    let s1 := countClose c r (closeEntry id r s)
    match r with
    | .errFar => raiseCulv c 0x18 id s1
    | .timeout => raiseCulv c 0x19 id s1
    | .errUncertain => raiseCulv c 0x1A id s1
    | _ => s1
  else s

/-- Reasons that stop the rest of a chain (R377). -/
def stopsChain (r : Close) : Bool := r = .errFar || r = .timeout || r = .errUncertain || r = .poisoned

/-- Close an operation, and the operations after it in a chain it stops. What is not on the wire leaves the list. -/
def closeOp (c : Nat) (o : COp) (r : Close) (detail a : Nat) (pref : Bool) (s : State) : State :=
  let s1 := closeOne c o r detail a pref s
  let rest := if o.chain ≠ 0 && stopsChain r then
      ((s1.culv c).ops.dropWhile (fun x => x.id ≠ o.id)).filter (fun x => x.chain = o.chain && x.id ≠ o.id) else []
  let s2 := forEach rest (fun x s => dropOp c x.id (closeOne c x .cancelled 0 a false s)) s1
  let s3 := if o.stat = .onWire then s2 else dropOp c o.id s2
  settleLock c s3

/-- An operation whose wire transfer has ended leaves the list. -/
def endOp (c : Nat) (o : COp) (s : State) : State := settleLock c (dropOp c o.id s)

/-! ### Semaphores (R378, R379) -/

/-- The range an operation touches: culvert words on C1, its station on C2 and C3. -/
def opRange (o : COp) : Nat × Nat :=
  if o.kind = .xfer then (o.addr, 1)
  else if o.kind = .rmw then (o.addr, 1)
  else (o.addr, opPhases o)

def overlaps (a n b m : Nat) : Bool := a < b + m && b < a + n

/-- A semaphore held by another requester covers part of the range. -/
def semBlocks (s : State) (c req ep a n : Nat) : Bool :=
  (s.culv c).sems.any (fun e => !(e.2.holder = req && e.2.ep = ep) && overlaps a n e.2.base (e.2.len1 + 1))

/-! ### The next operation (R354, R355, R377, R379) -/

def blockedOp (s : State) (c : Nat) (o : COp) : Bool :=
  o.cls ≠ .spate && semBlocks s c o.req o.ep (opRange o).1 (opRange o).2

/-- An operation that an issue decision may take: handed to the controller, open, not on the wire, and, with its chain,
not behind a semaphore. -/
def candidate (s : State) (c : Nat) (o : COp) : Bool :=
  o.fed && o.stat ≠ .onWire && !o.closed && !blockedOp s c o
    && (o.chain = 0 || ((s.culv c).ops.filter (fun x => x.chain = o.chain)).all (fun x => x.fed && !blockedOp s c x))

/-- The next operation of the chain on the wire. Each waits while a semaphore blocks it (R379). -/
def nextOfChain (s : State) (c n : Nat) : Option COp :=
  match (s.culv c).ops.find? (fun o => o.chain = n && o.stat ≠ .onWire && (!o.closed || o.runsOn)) with
  | some o => if blockedOp s c o && !o.runsOn then none else some o
  | none => none

/-- The operation that goes next on culvert c. -/
def nextOp (s : State) (c : Nat) : Option COp :=
  let k := s.culv c
  if k.chainNow ≠ 0 then nextOfChain s c k.chainNow
  else
    let l := k.ops.filter (fun o => candidate s c o)
    match l.find? (fun o => o.cls = .spate) with
    | some o => some o
    | none =>
      match l.find? (fun o => o.cls = .flow) with
      | some o => some o
      | none => l.head?

def wireOp (s : State) (c : Nat) : Option COp := (s.culv c).ops.find? (fun o => o.stat = .onWire)

/-- C1 belongs to this device: no TAND plot, or it is the keeper (R344, R400). -/
def tandAllows (s : State) : Bool := s.tandPlot.isNone || s.tand.st = .keeper

/-- The culvert issues (R342, R393, R557): enabled, with a CULV plot, not in its safe state; C1 also with its bank
and its tandem role. -/
def culvUsable (s : State) (c : Nat) : Bool :=
  kEnable s c && (s.culvPlot c).isSome && !(s.culv c).safe && busLive s && !s.pwr.blkHeld.getLsbD (4 + c)
    && (c ≠ 0 || (!s.pwr.c1Reset && tandAllows s))

/-- C1 work that wants the bus. -/
def c1Work (s : State) : Bool := culvUsable s 0 && (nextOp s 0).isSome

/-! ### Quiet-range buffers (R382 to R384) -/

/-- Drop the buffers of ranges that the words touch. -/
def dropBufs (s : State) (hit : Nat → Bool) : State :=
  s.onCulv 0 (fun k => { k with bufs := k.bufs.filter (fun b => !hit b.1) })

def dropAllBufs (s : State) : State := s.onCulv 0 (fun k => { k with bufs := [] })

/-- A WRITE, RMW or chain over words [a, a + n) invalidates the buffers of the ranges it touches. -/
def touchQuiet (a n : Nat) (s : State) : State := dropBufs s (fun r => overlaps a n (kQrBase s r) (kQrLen s r))

def spoilsBuf (o : COp) : Bool := o.kind = .write || o.kind = .rmw || (o.chain ≠ 0 && o.kind ≠ .xfer)

/-- The range that holds the READ of words [a, a + n) whole. -/
def quietRange (s : State) (a n : Nat) : Option Nat :=
  (List.range 8).find? (fun r => kQrLen s r ≠ 0 && kQrBase s r ≤ a && a + n ≤ kQrBase s r + kQrLen s r)

/-- The words of a READ, when a valid buffer holds them all. -/
def bufHit (s : State) (a n : Nat) : Option (List (BitVec 12)) :=
  match s.culvs.c1.bufs.find? (fun b => b.2.1 ≤ a && a + n ≤ b.2.1 + b.2.2.1.length) with
  | some (_, f, ws, _) => some ((ws.drop (a - f)).take n)
  | none => none

/-- R382: a READ of UNIT 0 without NOPF that closed OK inside a range asks for a prefetch of the words after it. -/
def wantPrefetch (o : COp) (s : State) : State :=
  if o.culv = 0 && o.kind = .read && o.unit = 0 && !o.idem then
    match quietRange s o.addr o.count with
    | some r => s.onCulv 0 (fun k => { k with pfWant := wrStore 0 k.pfWant r (o.addr + o.count + 1) })
    | none => s
  else s

/-! ### Cancellation (R391) -/

/-- The operations cancelled together with this one: those of its chain, or itself. -/
def cancelled (s : State) (c : Nat) (o : COp) : List COp :=
  if o.chain = 0 then [o] else (s.culv c).ops.filter (fun x => x.chain = o.chain)

/-- R361, R391: the grant is taken for this operation, or for its chain, next in turn, and C1_AS_N has not fallen. -/
def owesNull (s : State) (o : COp) : Bool :=
  o.culv = 0 && s.culvs.bus.owed
    && (match nextOp s 0 with | some n => (cancelled s 0 o).any (fun x => x.id = n.id) | none => false)

/-- The tenure ends with one null cycle (R361, R391). -/
def nullCycle (s : State) : State :=
  s.onCulvs (fun k =>
    { k with
      c1 := { k.c1 with nullCyc := k.c1.nullCyc + 1 }
      bus := { k.bus with held := false, owed := false, phases := 0, foreignLast := false, driven := [0] } })

/-- An operation that never reached the wire leaves its queue. The one for which the grant was taken closes
CANCELLED_LATE, and so does the first of a chain; the others of that chain close CANCELLED (R377, R391; log 76). -/
def cancelWaiting (c : Nat) (o : COp) (s : State) : State :=
  let next := (nextOp s c).map COp.id
  let late := owesNull s o
  let s1 := forEach (cancelled s c o) (fun x s =>
    dropOp c x.id (closeOne c x (if late && next = some x.id then .cancelledLate else .cancelled) 0 0 false s)) s
  if late then nullCycle s1 else s1

/-- Cancel one operation by where it stands. -/
def cancelOp (c : Nat) (o : COp) (s : State) : State :=
  if o.closed then s
  else if o.chain ≠ 0 && o.chain = (s.culv c).chainNow then
    forEach ((cancelled s c o).filter (fun x => !x.closed)) (fun x s =>
      onOp c x.id (fun y => { y with runsOn := true }) (closeOne c x .cancelledLate 0 0 false s)) s
  else if o.chain ≠ 0 || (o.stat = .waiting && owesNull s o) then cancelWaiting c o s
  else match o.stat with
    | .waiting => closeOp c o .cancelled 0 0 false s
    | .between => closeOp c o .cancelledLate 0 0 false s
    | .onWire =>
      if o.kind = .xfer then closeOp c o .cancelledLate 0 0 false s
      else onOp c o.id (fun x => { x with cancel := true }) s

/-- Cancel every open operation that meets `f`, silencing its result where `mute` (R101, R124, R392). -/
def cancelOps (mute : Bool) (f : COp → Bool) (s : State) : State :=
  forEach [0, 1, 2] (fun c s =>
    let s1 := if mute then s.onCulv c (fun k => { k with ops := k.ops.map (fun o => if f o then { o with mute := true } else o) })
      else s
    forEach (((s1.culv c).ops.filter (fun o => f o && !o.closed)).map COp.id) (fun i s =>
      match (s.culv c).ops.find? (fun o => o.id = i) with
      | some o => cancelOp c o s
      | none => s) s1) s

/-- Close every open operation that meets `f` POISONED (R394, R557, R559). -/
def poisonOps (f : Nat → COp → Bool) (s : State) : State :=
  forEach [0, 1, 2] (fun c s =>
    forEach ((s.culv c).ops.filter (fun o => f c o && !o.closed)) (fun o s =>
      let s1 := closeOne c o .poisoned 0 0 false s
      settleLock c (if o.stat = .onWire then s1 else dropOp c o.id s1)) s) s

/-! ### Entries with no operation in a queue (R345, R394, R418, R445) -/

/-- The request of a forwarded operation, sent or not, by its ledger ID: header word 0 and endpoint. -/
def fwdOf (s : State) (id : Nat) : Option (W × Nat) :=
  match s.tand.toSend.find? (fun f => f.1 = id) with
  | some f => some (f.2.2.headD 0, if f.2.1 = .spate then 2 else 1)
  | none => (s.tand.fwd.find? (fun f => f.1 = id)).map (fun f => (f.2.1.headD 0, f.2.2))

/-- Close a forwarded operation at the follower with a result of its own, or none where `mute`. -/
def closeFwd (mute : Bool) (id : Nat) (r : Close) (detail : Nat) (s : State) : State :=
  match fwdOf s id with
  | none => closeLone 0 id r s
  | some x =>
    let s1 := (closeLone 0 id r s).onTand (fun t =>
      { t with toSend := t.toSend.filter (fun f => f.1 ≠ id), fwd := t.fwd.filter (fun f => f.1 ≠ id) })
    if mute then s1
    else pushIn x.2 (resultHead (x.1.bits 7 0) 1 (x.1.bits 12 10) r.code detail 0 false (some id) 0) s1

/-- The READ of entry `id` is no longer staged; its sample will be FAILED. -/
def unstage (id : Nat) (s : State) : State :=
  s.onCads (fun l => l.map (fun c =>
    { c with stagedIds := c.stagedIds.map (fun x => if x.2 = some id then (x.1, none) else x) }))

/-- An open entry that no operation or split stands for closes POISONED. -/
def poisonLone (e : Nat × Entry) (s : State) : State :=
  if e.2.kind = .culvert || e.2.kind = .prefetch then
    (if (fwdOf s e.1).isSome then closeFwd false e.1 .poisoned 0 s
     else unstage e.1 (closeLone (e.2.culv - 1) e.1 .poisoned s))
  else closeEntry e.1 .poisoned s

/-- Every open entry of culvert c closes POISONED (R394, R426, R557). -/
def poisonCulv (c : Nat) (s : State) : State :=
  let s1 := poisonOps (fun k _ => k = c) s
  forEach ((openEntries s1).filter (fun e => e.2.culv = c + 1 && (e.2.kind = .culvert || e.2.kind = .prefetch))) poisonLone s1

/-! ### Releasing C1 (R394, R426, R557) -/

/-- C1_LOCK_N, C1_BR_N and the bus are released; what is on the wire ends with its data phase. -/
def releaseC1 (s : State) : State :=
  (s.onCulv 0 (fun k => { k with ops := k.ops.filter (fun o => !o.closed), chainNow := 0 })).onBus (fun b =>
    { b with held := false, owed := false, lockOwn := false, granting := false, phases := 0 })

/-- Free the semaphores that meet `f` on culvert c. -/
def freeSems (f : Sem → Bool) (c : Nat) (s : State) : State :=
  s.onCulv c (fun k => { k with sems := k.sems.filter (fun e => !f e.2) })

end Sys2Proof.Machine
end

