-- ==== Sys2Proof/Machine/ReqOps.lean ====
section
/-!
DEFINITION. Culvert requests (R347 to R353, R372 to R383, R418): reading them out of a word stream, checking them,
accepting them into the ledger and the culvert queue, forwarding them to the tandem keeper, and serving the
semaphore and cancel requests.
-/

namespace Sys2Proof.Machine

/-- A request as its header words spell it. -/
structure Req where
  words : List W
  tag : Nat
  culv : Nat
  op : Nat
  idem : Bool
  lock : Bool
  nopf : Bool
  unit : Nat
  w1 : W
  data : List W
  deriving DecidableEq, Repr

/-- Who asks: the plot that holds the entry, the peer code and endpoint, the class, the follower's ledger ID + 1, and
whether the data words it sends take a poison mark on their way (R345). -/
structure Asker where
  plot : Nat
  peer : Nat
  ep : Nat
  cls : TClass
  fwdId : Nat
  poison : Bool
  deriving DecidableEq, Repr

/-! ### Reading requests (R347, R348) -/

def reqHead (w : W) : Req :=
  ⟨[w], w.bits 7 0, w.bits 9 8, w.bits 12 10, w.bit 13, w.bit 14, w.bit 15, w.bits 17 16, 0, []⟩

/-- A reserved value in header word 0: reserved bits, no culvert, no operation, or one of another culvert. -/
def headBad (w : W) : Bool :=
  let r := reqHead w
  w.bits 31 18 ≠ 0 || r.culv = 0 || r.op = 7 || (r.op = 2 && r.culv = 1)
    || ((r.op = 0 || r.op = 1 || r.op = 3) && r.culv ≠ 1)

/-- A reserved value in header word 1; a COUNT of 0 is none of 1 to 64. -/
def bodyBad (op : Nat) (w : W) : Bool :=
  match op with
  | 0 | 1 => w.bit 15 || w.bits 31 23 ≠ 0 || w.bits 22 16 = 0
  | 2 => w.bits 31 24 ≠ 0
  | 3 => w.bits 31 15 ≠ 0
  | 4 => w.bit 15
  | 5 => w.bits 15 0 ≠ 0 || w.bits 31 19 ≠ 0
  | _ => w.bits 31 8 ≠ 0

/-- Data words that follow the header (R348). -/
def reqNeed (op : Nat) (w1 : W) : Nat :=
  match op with
  | 1 => w1.bits 22 16
  | 2 => (w1.bits 15 8 + 3) / 4
  | 3 => 1
  | _ => 0

/-- The whole requests of a word stream, the header that holds a reserved value if one stops the stream, and the
words of a request not yet whole. -/
def parseReqs : Nat → List W → List Req × Option Req × List W
  | 0, ws => ([], none, ws)
  | _ + 1, [] => ([], none, [])
  | n + 1, w0 :: rest =>
    if headBad w0 then ([], some (reqHead w0), [])
    else match rest with
      | [] => ([], none, [w0])
      | w1 :: ds =>
        let r := reqHead w0
        if bodyBad r.op w1 then ([], some r, [])
        else
          let k := reqNeed r.op w1
          if ds.length < k then ([], none, w0 :: rest)
          else
            let t := parseReqs n (ds.drop k)
            ({ r with words := w0 :: w1 :: ds.take k, w1 := w1, data := ds.take k } :: t.1, t.2.1, t.2.2)

/-- Split requests into locked chains (R376): whole groups, and the requests of one not yet ended. -/
def groupReqs : List Req → List Req → List (List Req) × List Req
  | [], acc => ([], acc)
  | r :: l, acc =>
    if r.lock then groupReqs l (acc ++ [r])
    else ((acc ++ [r]) :: (groupReqs l []).1, (groupReqs l []).2)

/-- Header word 0. -/
def reqWord0 (tag culv op : Nat) (idem lock nopf : Bool) (unit : Nat) : W :=
  mkW [(0, 8, tag), (8, 2, culv), (10, 3, op), (13, 1, b2n idem), (14, 1, b2n lock), (15, 1, b2n nopf),
    (16, 2, unit)]

/-! ### Checks (R342, R373 to R376, R379) -/

def rAddr (r : Req) : Nat := r.w1.bits 14 0
def rCount (r : Req) : Nat := r.w1.bits 22 16
def rTxLen (r : Req) : Nat := r.w1.bits 15 8

/-- The range a request touches. -/
def reqRange (r : Req) : Nat × Nat :=
  match r.op with
  | 2 => (r.w1.bits 7 0, 1)
  | 3 => (rAddr r, 1)
  | _ => (rAddr r, rCount r * unitWords r.unit)

/-- A request of culvert C1 on a tandem follower (R418). -/
def atFollower (s : State) (r : Req) : Bool := r.culv = 1 && s.tandPlot.isSome && s.tand.st = .follower
def forwards (s : State) (r : Req) : Bool :=
  atFollower s r && (match s.tandPlot with | some p => tandFwdEn s p | none => false)

/-- The reason a request is rejected for by itself, by DETAIL code. -/
def reqDetail (s : State) (a : Asker) (r : Req) : Option Nat :=
  let c := r.culv - 1
  if !kEnable s c || (s.culvPlot c).isNone || (atFollower s r && !forwards s r) then some 2
  else if (r.op ≤ 1 && kStrict s 0 && r.unit ≠ 0) || (r.op = 3 && r.unit ≠ 0)
      || (r.op = 2 && kStrict s c && kMaxFrame s c < rTxLen r) then some 3
  else if r.op ≤ 1 && (64 < rCount r * unitWords r.unit || 0x8000 < rAddr r + rCount r * unitWords r.unit) then some 4
  else if r.op ≤ 3 && a.cls = .spate && semBlocks s c a.peer a.ep (reqRange r).1 (reqRange r).2 then some 5
  else none

/-- C1 data phases of a request. -/
def reqPhases (r : Req) : Nat :=
  match r.op with
  | 0 | 1 => rCount r * unitWords r.unit
  | 3 => 2
  | _ => 0

/-- A chain of more than one request, or an RMW, which is a chain of itself (R376). -/
def isChain (g : List Req) : Bool := decide (1 < g.length) || g.any (fun r => r.op = 3)

/-- A chain that breaks R376. -/
def chainBad (s : State) (g : List Req) : Bool :=
  decide (8 < g.length) || g.any (fun r => decide (3 < r.op) || r.culv ≠ (g.headD (reqHead 0)).culv)
    || decide (kLockMax s < (g.map reqPhases).sum)

/-! ### Results without an entry (R352, R353) -/

/-- Give a result to the asker directly. -/
def tell (a : Asker) (ws : List W) (s : State) : State :=
  if a.peer = 0x59 then sendFrame (.fwdRes (a.fwdId - 1) ws) s else pushIn a.ep ws s

def reject (a : Asker) (detail : Nat) (r : Req) (s : State) : State :=
  tell a (resultHead r.tag r.culv r.op 7 detail 0 false none 0) s

def doneOk (a : Asker) (r : Req) (s : State) : State :=
  tell a (resultHead r.tag r.culv r.op 0 0 0 false none 0) s

/-! ### Accepting an operation (R350, R357, R369, R383) -/

def kindOfOp (op : Nat) : OpKind := if op = 0 then .read else if op = 1 then .write else if op = 2 then .xfer else .rmw

/-- The bytes of an XFER, four per word, the first in [7:0]. -/
def reqBytes (r : Req) : List Byte := (r.data.flatMap W.bytes).take (rTxLen r)

def mkOp (high : Bool) (a : Asker) (r : Req) (chain id : Nat) : COp :=
  { id := id, culv := r.culv - 1, kind := kindOfOp r.op, req := a.peer, ep := a.ep, tag := r.tag, cls := a.cls
    idem := if r.op = 0 then r.nopf else r.idem
    chain := chain, unit := r.unit
    addr := if r.op = 2 then r.w1.bits 7 0 else rAddr r
    count := rCount r
    data := if r.op = 1 then splitUnits high r.unit r.data else r.data
    tx := reqBytes r
    rxLen := if r.op = 2 then r.w1.bits 23 16 else 0
    got := [], done := 0, reply := [], attempts := 0, stat := .waiting, fail := 0, frame := 0, closed := false
    aux := 0, fwdId := a.fwdId, cancel := false, mute := false, dueTick := 0, dueCyc := 0, late := false
    fed := false, poison := a.poison && !r.data.isEmpty, runsOn := false }

/-- The ledger entry of an operation. -/
def mkEntry (owner : Nat) (kind : EKind) (limit : Nat) (o : COp) : Entry :=
  { noEntry with
    cls := o.cls, kind := kind, owner := owner, req := o.req, culv := o.culv + 1, tag := o.tag
    target := BitVec.ofNat 18 (farAddr o.culv o.addr), limit := limit }

/-- OP_TIMEOUT in ticks: 0 acts as 65,535 (R388). -/
def opLimit (s : State) (c : Nat) : Nat := orElse0 (kOpTimeout s c) 65535

/-- A READ outside a chain that a valid buffer serves (R383). -/
def served (s : State) (a : Asker) (r : Req) : Option (List (BitVec 12)) :=
  if r.op = 0 && !r.nopf && r.unit = 0 && !semBlocks s 0 a.peer a.ep (reqRange r).1 (reqRange r).2
  then bufHit s (rAddr r) (rCount r) else none

/-- Work of a kind is ready in a plot that may be missing. -/
def readyWork (o : Option Nat) (kind ref : Nat) (s : State) : State :=
  match o with
  | some p => readyItem p kind ref s
  | none => s

/-- An item of the CULV plot hands operation `id` to its controller, or closes it POISONED where its data carry a mark
(R345, R436, R640). -/
def feedOp (c id : Nat) (s : State) : State :=
  match (s.culv c).ops.find? (fun o => o.id = id && !o.closed && !o.fed) with
  | some o =>
    if o.poison then closeOp c o .poisoned 0 0 false s
    else onOp c id (fun x => { x with fed := true }) s
  | none => s

/-- An item of the FUNC plot hands operation `id` on to the CULV plot. -/
def passOp (id : Nat) (s : State) : State :=
  let c := (s.entry id).culv - 1
  match (s.culv c).ops.find? (fun o => o.id = id && !o.closed && !o.fed) with
  | some o => readyWork (s.culvPlot c) (classCode o.cls) id s
  | none => s

/-- The first item an accepted operation needs: of the FUNC plot, or, for the tandem partner's and the prefetch, of the
CULV plot. -/
def readyOp (o : COp) (s : State) : State :=
  if o.req = 0x59 || o.kind = .prefetch then readyWork (s.culvPlot o.culv) (classCode o.cls) o.id s
  else readyItem o.req (classCode o.cls) o.id s

/-- Queue an operation under a new entry; none where no ledger ID is free (R57). -/
def acceptOp (a : Asker) (chain : Nat) (r : Req) (s : State) : Option State :=
  match allocId s a.plot (cLedgerCap (s.plot a.plot).wc a.plot) a.cls with
  | none => none
  | some id =>
    let c := r.culv - 1
    let o := mkOp (kHighFirst s && c = 0) a r chain id
    let s1 := openEntry id (mkEntry a.plot .culvert (opLimit s c) o) s
    match (if chain = 0 then served s a r else none) with
    | some ws =>
      let o' := { o with got := ws, done := ws.length }
      let s2 := (closeEntry id .ok (s1.onEntry id (fun e => { e with done := opDone o' }))).onCulv 0 (fun k =>
        { k with okCnt := k.okCnt + 1, pfHits := k.pfHits + 1 })
      some (wantPrefetch o' (giveResult o' (resultWords (kHighFirst s) o' .ok 0 true) s2))
    | none =>
      let s2 := readyOp o (s1.onCulv c (fun k => { k with ops := k.ops ++ [o] }))
      some (if spoilsBuf o && c = 0 then touchQuiet (opRange o).1 (opRange o).2 s2 else s2)

/-! ### Semaphores and CANCEL (R353, R378, R392) -/

def rSem (r : Req) : Nat := r.w1.bits 18 16

/-- SEM_ACQ: refused where SEM is held, or its range overlaps one held by another requester. -/
def semAcquire (a : Asker) (r : Req) (s : State) : State :=
  let c := r.culv - 1
  let base := rAddr r
  let len1 := r.w1.bits 31 19
  if (s.culv c).sems.any (fun e => e.1 = rSem r) || semBlocks s c a.peer a.ep base (len1 + 1) then reject a 5 r s
  else doneOk a r (s.onCulv c (fun k =>
    { k with sems := (k.sems.filter (fun e => e.1 < rSem r)) ++
        (rSem r, (⟨a.peer, a.ep, s.tick.now, base, len1, a.peer = 0x59⟩ : Sem)) ::
          (k.sems.filter (fun e => rSem r < e.1)) }))

/-- SEM_REL by the holder; by any other, SEM_NOT_HELD. -/
def semRelease (a : Asker) (r : Req) (s : State) : State :=
  let c := r.culv - 1
  if (s.culv c).sems.any (fun e => e.1 = rSem r && e.2.holder = a.peer && e.2.ep = a.ep) then
    doneOk a r (s.onCulv c (fun k => { k with sems := k.sems.filter (fun e => e.1 ≠ rSem r) }))
  else reject a 6 r s

/-- The open operations of a TAG on the asker's endpoint, in the queues of this chip's culverts. -/
def tagHere (a : Asker) (tag : Nat) (o : COp) : Bool :=
  o.tag = tag && o.req = a.peer && o.ep = a.ep && o.kind ≠ .prefetch && o.kind ≠ .timed

/-- CANCEL names every open operation of its TAG on the endpoint (log 17). -/
def cancelTag (a : Asker) (r : Req) (s : State) : State :=
  let f := tagHere a (r.w1.bits 7 0)
  if [0, 1, 2].any (fun c => (s.culv c).ops.any (fun o => f o && !o.closed)) then
    doneOk a r (cancelOps false f s)
  else reject a 7 r s

/-! ### Forwarding (R418, R421, R430) -/

/-- The number in place of a ledger ID of a request that returns a result but opens no entry, and of one whose result no
host waits for. -/
def noId : Nat := 0x4000
def noHost : Nat := 0x8000

/-- Send the requests that wait, one by one while the link has room, once the follower forwards. -/
def flushFwd : List (Nat × TClass × List W) → State → State
  | [], s => s
  | f :: l, s =>
    if s.tand.st = .follower && s.tand.linkUp && s.tand.mirrored && linkSends s && linkRoom s then
      flushFwd l ((sendFrame (.fwdReq (f.1 % 0x4000) f.2.2) s).onTand (fun t =>
        { t with
          toSend := t.toSend.drop 1
          fwd := if f.1 = noHost then t.fwd else t.fwd ++ [(f.1, f.2.2, if f.2.1 = .spate then 2 else 1)] }))
    else s

/-- A request waits for the TAND plot's item (R418, R640). -/
def queueFwd (id : Nat) (cls : TClass) (ws : List W) (s : State) : State :=
  readyWork s.tandPlot 1 0 (s.onTand (fun t => { t with toSend := t.toSend ++ [(id, cls, ws)] }))

/-- A CANCEL for a TAG that goes to the keeper. -/
def cancelWords (tag target : Nat) : List W := [reqWord0 tag 1 6 false false false 0, mkW [(0, 8, target)]]

/-- The forwarded operations of a TAG that came from endpoint `ep` and are open. -/
def fwdTagged (s : State) (ep tag : Nat) : List Nat :=
  (s.tand.toSend.filter (fun f => f.1 < noId && (f.2.2.headD 0).bits 7 0 = tag && (f.2.1 = .spate) = (ep = 2))).map Prod.fst
    ++ (s.tand.fwd.filter (fun f => f.1 < noId && (f.2.1.headD 0).bits 7 0 = tag && f.2.2 = ep)).map Prod.fst

/-- A CANCEL at a follower (R392, R418): what waits unsent closes here; for what was sent the CANCEL goes to the
keeper. -/
def cancelFwd (a : Asker) (r : Req) (s : State) : State :=
  let tag := r.w1.bits 7 0
  let here := s.tand.toSend.filter (fun f => (fwdTagged s a.ep tag).contains f.1)
  let s1 := forEach here (fun f => closeFwd false f.1 .cancelled 0) s
  if (fwdTagged s1 a.ep tag).isEmpty then doneOk a r s1 else queueFwd noId a.cls (cancelWords r.tag tag) s1

/-- Put one request of the host into the forwarding queue, with an entry of its own for an operation. Data with a poison
mark go no further: the entry closes POISONED (R345). -/
def forwardReq (a : Asker) (r : Req) (s : State) : Option State :=
  if r.op ≤ 3 then
    match allocId s a.plot (cLedgerCap (s.plot a.plot).wc a.plot) a.cls with
    | none => none
    | some id =>
      let s1 := openEntry id (mkEntry a.plot .culvert (opLimit s 0) (mkOp false a r 0 id)) s
      some (if a.poison && !r.data.isEmpty then
          tell a (resultHead r.tag 1 r.op 6 0 0 false (some id) 0) (closeLone 0 id .poisoned s1)
        else queueFwd id a.cls r.words s1)
  else some (queueFwd noId a.cls r.words s)

/-- CANCEL acts on what this chip holds of its TAG, its own operations and those it forwarded (R392). -/
def cancelReq (a : Asker) (r : Req) (s : State) : State :=
  if (fwdTagged s a.ep (r.w1.bits 7 0)).isEmpty || a.peer = 0x59 then cancelTag a r s
  else cancelFwd a r (cancelOps false (tagHere a (r.w1.bits 7 0)) s)

/-! ### Taking requests -/

/-- One request outside a chain. -/
def takeReq (a : Asker) (r : Req) (s : State) : Option State :=
  match reqDetail s a r with
  | some d => some (reject a d r s)
  | none =>
    if r.op = 6 then some (cancelReq a r s)
    else if forwards s r then forwardReq a r s
    else match r.op with
      | 4 => some (semAcquire a r s)
      | 5 => some (semRelease a r s)
      | _ => acceptOp a 0 r s

/-- Fold a step that may find no ledger ID. -/
def takeAll {α : Type} (f : α → State → Option State) : List α → State → Option State
  | [], s => some s
  | x :: l, s =>
    match f x s with
    | some s1 => takeAll f l s1
    | none => none

/-- One group: a single request, or a chain accepted or rejected whole (R376), each with its asker. A member with a
reason of its own reports that reason. -/
def takeGroup (g : List (Asker × Req)) (s : State) : Option State :=
  let rs := g.map Prod.snd
  if !isChain rs then takeAll (fun x => takeReq x.1 x.2) g s
  else if chainBad s rs || g.any (fun x => (reqDetail s x.1 x.2).isSome) then
    some (forEach g (fun x s => reject x.1 ((reqDetail s x.1 x.2).getD 9) x.2 s) s)
  else if rs.any (forwards s) then takeAll (fun x => forwardReq x.1 x.2) g s
  else
    let n := s.culvs.chains + 1
    takeAll (fun x => acceptOp x.1 n x.2) g (s.onCulvs (fun k => { k with chains := n }))

/-- The rack function serves endpoint e now (R18, R247, R284, R289, R568): a plot that is paused or fenced has its
interface run on. -/
def epServes (s : State) (e : Nat) : Bool :=
  s.hub.fConfigured && fieldRuns s && !s.hay.safeDev && optOpen s (s.funcPlot e)

/-- A stream of request words as an endpoint reads it: the groups that are whole, the requests of a chain not yet ended,
the header that stops it, and the words of a request not yet whole. `drop` when the first words continue a request that
has been rejected already. -/
structure Stream1 where
  groups : List (List Req)
  chain : List Req
  bad : Option Req
  rest : List W
  dropped : Bool
  deriving DecidableEq, Repr

def readStream (drop : Bool) (ws : List W) : Stream1 :=
  let t := parseReqs (ws.length + 1) ws
  let l := if drop then t.1.drop 1 else t.1
  let g := groupReqs l []
  ⟨g.1, g.2, if drop && t.1.isEmpty then none else t.2.1, t.2.2, drop && t.1.isEmpty && t.2.1.isNone⟩

/-- R350, R352: a transaction on endpoint 1 or 2 that carries request words. The words of a request, or of a chain, not
yet whole wait in the endpoint's buffer. On endpoint 2 a request that is not whole is rejected SPATE_LONG, once, and
its later words are passed over. A request that cannot come stops the chain before it: LOCK_CHAIN. Where an entry is
missing, or the plot's sluice A holds the headgate's claim back (R328), the packet is answered NAK. -/
def hostRequest (spate poison : Bool) (ws : List W) (s : State) : State :=
  let e := if spate then 2 else 1
  match s.funcPlot e with
  | none => nak s
  | some p =>
    if !epServes s e || !accepting s || (s.ep e).halted || claimWaits s (2 * p) 0x40 then nak s
    else
      let a : Asker := ⟨p, p, e, epClass s p e, 0, poison⟩
      let q := s.ep e
      let x := readStream q.drop (q.pkts.flatten ++ ws)
      match takeAll (fun g => takeGroup (g.map (fun r => (a, r)))) x.groups s with
      | none => nak s
      | some s1 =>
        let late := spate && !x.rest.isEmpty && !x.dropped
        let stops := late || x.bad.isSome
        let s2 := forEach (if stops then x.chain else []) (reject a 9) s1
        let s3 := if late then reject a 8 (reqHead (x.rest.headD 0)) s2 else s2
        let s4 := match x.bad with
          | some r => reject a 1 r s3
          | none => s3
        let keep := (if stops then [] else x.chain.flatMap Req.words) ++ x.rest
        ack (s4.onEp e (fun q =>
          { q with pkts := if keep.isEmpty then [] else [keep], drop := late || x.dropped }))

end Sys2Proof.Machine
end

