-- ==== Sys2Proof/Machine/PortOps.lean ====
section
/-!
DEFINITION. The shared operations of the ports: closing split transactions (R276 to R278, R286), the hub's view of
a port losing power (R265), the power states (R463, R468 to R470), trips and safe states (R484, R492), sample sets
on their way into a sluice (R474, R476), and VCONN (R512).
-/

namespace Sys2Proof.Machine

/-! ### Split transactions (R276 to R278, R286 to R289) -/

/-- Close the entry of a split for a reason, with its one event and its count. A split whose attempt is on the wire
stays listed, marked closed, until that attempt ends. -/
def closeSplit (sp : Split) (r : Close) (s : State) : State :=
  if !(s.entry sp.id).opn then s
  else
    let own := (s.entry sp.id).owner
    let s1 := closeEntry sp.id r s
    let s2 := match r with
      | .errFar => if sp.periodic then s1 else raisePlot own 0x14 sp.id s1
      | .timeout => if sp.periodic then s1 else raisePlot own 0x15 sp.id s1
      | _ => s1
    let s3 := s2.onHubPort sp.port (fun h =>
      { h with
        npFail := if !sp.periodic && (r = .errFar || r = .timeout) then satInc h.npFail 65535 else h.npFail
        perMiss := if sp.periodic && r = .timeout then satInc h.perMiss 65535 else h.perMiss })
    s3.onHub (fun h =>
      { h with splits := (h.splits.filter (fun x => !(x.id = sp.id && !x.onWire))).map (fun x =>
          if x.id = sp.id then { x with closed := true, result := none } else x) })

/-- R286: a split of a port that leaves the bus; one closed ERR_FAR in this way raises SPLIT_ERR. -/
def dropSplit (x : Split) (s : State) : State :=
  if x.attempts = 0 then closeSplit x .cancelled s
  else
    let s1 := if x.periodic then raisePlot (s.entry x.id).owner 0x14 x.id s else s
    closeSplit x .errFar s1

/-- R286: a port that leaves the bus closes its splits; an attempt on the wire is abandoned with it. -/
def dropPortSplits (n : Nat) (s : State) : State :=
  (forEach (s.hub.splits.filter (fun x => x.port = n && !x.closed)) dropSplit s).onHub (fun h =>
      { h with splits := h.splits.filter (fun x => x.port ≠ n) })

/-! ### The hub's view of port power (R265, R463) -/

/-- A port other than Powered-off goes there; `oc` when protection switched it off: the host's PORT_POWER is then
clear, and the over-current change is a hub wake condition (R281, the worked example of chapter 11). -/
def hubOff (oc : Bool) (n : Nat) (s : State) : State :=
  let s1 := if oc then s.onPort n (fun p => { p with hostOn := false }) else s
  if (s.hubPort n).st = .poweredOff then s1
  else
    let s2 := s1.onHub (fun h => { h with wakeCond := h.wakeCond || (oc && h.susp && h.rwake) })
    dropPortSplits n (s2.onHubPort n (fun h =>
      { h with st := .poweredOff, speed := .none, cOc := h.cOc || oc, deadline := 0, test := 0, devResume := false, detect := [] }))

/-! ### Power states (R463, R468 to R470, R482) -/

def setEvt (k : Nat) (n : Nat) (s : State) : State :=
  s.onPort n (fun p => { p with evt := p.evt ||| BitVec.ofNat 8 (2 ^ k) })

/-- Enter a power state. Entering DISCHARGE or OFF drives HV_SELn low and ends a rail change (R482). -/
def enterPower (v : PState) (n : Nat) (s : State) : State :=
  s.onPort n (fun p =>
    let down := v = .off || v = .discharge
    { p with
      st := v, since := s.tick.now, ocRun := 0, lowRun := 0, slowRaised := false, safeDue := false
      uv := false
      pendOn := if v = .ramp then false else p.pendOn
      hvSel := if down then false else p.hvSel
      rail := if down then false else p.rail
      railBusy := if down then none else p.railBusy
      ovpHv := if down then false else p.ovpHv })

def active (p : PPort) : Bool := p.st = .ramp || p.st = .on

/-- A port in RAMP or ON goes to DISCHARGE; `oc` when protection does it. -/
def dischargePort (oc : Bool) (n : Nat) (s : State) : State :=
  if active (s.port n) then hubOff oc n (enterPower .discharge n s) else s

/-- ON requests to the port are refused (R468, R557, R464), and from shutdown step 3 on (R124). -/
def refusesOn (s : State) (n : Nat) : Bool :=
  let p := s.port n
  p.forceOff || p.latch ≠ .none || p.safe || !pEn s n || (s.pwr.phase = .shutdown && decide (3 ≤ s.pwr.shutStep))

/-! ### VCONN (R506, R510, R512) -/

/-- Open the VCONN switch of DP13 + t. -/
def vconnOpen (t : Nat) (s : State) : State := s.onTc t (fun q => { q with vconn := false })

/-- The ball of DP13 + t that does not carry BMC. -/
def otherCc (q : TcPort) : CcLevel := if q.orient then q.cc1 else q.cc2
def bmcCc (q : TcPort) : CcLevel := if q.orient then q.cc2 else q.cc1

/-- R512, R535: VCONN may be sourced now. -/
def vconnAllowed (s : State) (t : Nat) : Bool :=
  let q := s.tc t
  q.st = .attached && tcVconnAllow s t && s.pwr.vconnIn && !q.noGate && !(s.port (12 + t)).safe

/-! ### Port safe state (R492, R557) -/

/-- The Hayward takes the port's scope: the switch falls at once, DISCHARGE follows when the warden runs. -/
def safePort (n : Nat) (s : State) : State :=
  let s1 := s.onPort n (fun p =>
    { p with
      safe := true, safeDue := p.safeDue || active p, hvSel := false, pendOn := false
      latch := if p.latch = .none then .safe else p.latch })
  let s2 := hubOff true n s1
  if 12 ≤ n then vconnOpen (n - 12) s2 else s2

/-! ### Sample sets into sluices (R474 to R477) -/

/-- The ADC's claim on sluice A of plot Pp is granted: the waiting set is written. -/
def adcFlush (p : Nat) (s : State) : State :=
  match (s.sluice (2 * p)).opn, s.adc.sets.find? (fun x => x.1 = p) with
  | some o, some (_, ws) =>
    if o.claim.peer = 0x58 && o.words.isEmpty && o.part.isEmpty then
      let n := ws.length
      (forEach ((List.range n).zip ws) (fun x s =>
        writeSluice (2 * p) ⟨x.2.setWidth 32, 3, false, decide (x.1 + 1 = n)⟩ s) s).onAdc (fun a =>
          { a with sets := a.sets.filter (fun x => x.1 ≠ p) })
    else s
  | _, _ => s

/-- The culvert words of a committed packet, as its consumer unpacks them (R323, R324). -/
def unpackSet (pack : Bool) (k : SPkt) : List (BitVec 12) :=
  if pack then
    let bytes := 4 * (k.words.length - 1) + (k.words.getLastD noWord).vb + 1
    let n := k.words.foldr (fun w a => w.data.toNat + 2 ^ 32 * a) 0
    (List.range (2 * bytes / 3)).map (fun j => BitVec.ofNat 12 (n / 4096 ^ j))
  else k.words.map (fun w => w.data.setWidth 12)

/-- The oldest sample set in sluice A of Pp, whether one of its words is poisoned, and the state once the plot has taken
it (R318, R326, R334). -/
def popSet (p : Nat) (s : State) : Option (List (BitVec 12) × Bool × State) :=
  ((headPacket (s.sluice (2 * p))).filter (fun k => (k.words.headD noWord).peer = 0x58)).map (fun k =>
    (unpackSet (sPack s (2 * p)) k, k.words.any (fun w => w.poison || w.parBad), takeWords (2 * p) k.words.length s))

/-- Stages a set of n words needs (R323, R475). -/
def setStages (s : State) (p n : Nat) : Nat := if sPack s (2 * p) then (12 * n + 31) / 32 else n

/-- R474: the ADC claims sluice A of Pp and writes its set once granted. -/
def adcWrite (p : Nat) (ws : List (BitVec 12)) (s : State) : State :=
  let s1 := s.onAdc (fun a => { a with sets := a.sets.filter (fun x => x.1 ≠ p) ++ [(p, ws)] })
  let s2 := s1.onSluice (2 * p) (fun q => { q with claims := q.claims.filter (fun c => c.peer ≠ 0x58) })
  adcFlush p (claimSluice (2 * p) ⟨.flow, 0x58, setStages s p ws.length⟩ s2)

end Sys2Proof.Machine
end

