-- ==== Sys2Proof/Machine/FieldOps.lean ====
section
/-!
DEFINITION. The shared operations of the field and of configuration updates: dropping updates (R252, R253), the
field map, shadowing and swaps (R580), failed furrows (R593, R594), and loading a working copy with all that
follows from it for each role (R217, R240, R385, R414, R454, R504).
-/

namespace Sys2Proof.Machine

/-! ### The field map (R20, R63) -/

def setMap (f : Nat) (v : FMap) (s : State) : State := s.onField (fun x => { x with map := updNth x.map f (fun _ => v) })

/-- A shadowing ends without a swap: the fallow furrow is fallow again. -/
def abortShadow (s : State) : State :=
  match s.field.shadow with
  | none => s
  | some h =>
    let s1 := (s.onPlot h.plot (fun q => { q with shadowed := false })).onField (fun x => { x with shadow := none })
    match s.field.fallow with
    | some f => setMap f ⟨63, .fallow⟩ s1
    | none => s1

/-- The fallow furrow begins shadowing Pp (R580). -/
def beginShadow (why : ShadowWhy) (p : Nat) (newWc : Store W) (s : State) : State :=
  match s.field.fallow with
  | none => s
  | some f =>
    (setMap f ⟨p, .shadowing⟩ (s.onPlot p (fun q => { q with shadowed := true }))).onField (fun x =>
      { x with shadow := some ⟨why, p, (s.plot p).furrow, s.tick.now, false, newWc⟩, testAt := none })

/-- The swap: the fallow furrow carries the plot, the vacated furrow is fallow and its test is to begin
(R578, R580, R582). -/
def swapShadow (h : Shadow) (s : State) : State :=
  match s.field.fallow with
  | none => s
  | some f =>
    let s1 := setMap h.target ⟨63, .fallow⟩ (setMap f ⟨h.plot, .carrying⟩ s)
    let s2 := s1.onPlot h.plot (fun q => { q with furrow := f, shadowed := false })
    s2.onField (fun x =>
      { x with
        fallow := some h.target, shadow := none, counter := 0, due := false, swapDone := true
        swaps := x.swaps + 1, testAt := none, testWait := true })

/-! ### Updates by swap (R237, R241, R252) -/

/-- Pp's pending change is dropped: its bit moves to the stuck masks and one epoch step is not made. -/
def stickUpdate (p : Nat) (s : State) : State :=
  s.onCfg (fun c =>
    { c with pend := c.pend.filter (· ≠ p), stuck := insNat p c.stuck, targetEpoch := c.targetEpoch - 1 })

/-- Pp's swap-based update, pending, loading or shadowing, is dropped. -/
def dropUpdate (p : Nat) (s : State) : State :=
  if !(swapPend s).contains p then s
  else
    let s1 := match s.field.shadow with
      | some h => if h.why = ShadowWhy.update && h.plot = p then abortShadow s else s
      | none => s
    let s2 := s1.onCfg (fun c => { c with load := match c.load with
      | some (q, m, b) => if q = p then none else some (q, m, b)
      | none => none })
    stickUpdate p s2

def dropUpdates (s : State) : State := forEach (swapPend s) dropUpdate s

/-- The staged fence is gone (R245, R250, R253). -/
def endFence (s : State) : State :=
  s.onCfg (fun c => { c with fenceList := [], fPending := false, fForCommit := false, fAccepted := false, fPaused := false })

/-- Something of the last accepted commit is still to be applied (R230): a fence of R246 is no part of one. -/
def applying (s : State) : Bool :=
  !s.cfg.pend.isEmpty || s.cfg.step.isSome || s.cfg.load.isSome || s.cfg.fAccepted

/-- A waiting OPEN takes place at the boundary at which nothing is left to be applied (R230). -/
def settleOpen (s : State) : State :=
  if s.cfg.openWait && !applying s then
    s.onCfg (fun c =>
      { c with
        openWait := false, isOpen := true, window := 0, winRun := false
        pass := c.pass.map (fun p => { p with clean := false }) })
  else s

/-! ### A failed furrow (R59, R593, R641) -/

/-- Furrow f is marked failed; `tested` when a test or a shadowing found it. -/
def failFurrow (tested : Bool) (f : Nat) (s : State) : State :=
  let s1 := if s.field.fallow = some f then dropUpdates (abortShadow s) else s
  let s2 := s1.onField (fun x =>
    { x with
      map := updNth x.map f (fun _ => ⟨63, .failed⟩)
      failed := insNat f x.failed, noSpare := true, failedF := f
      fallow := if x.fallow = some f then none else x.fallow
      testAt := if x.fallow = some f then none else x.testAt
      testWait := if x.fallow = some f then false else x.testWait
      testFail := tested || x.testFail
      lastTested := if tested then f else x.lastTested
      lastPass := if tested then false else x.lastPass })
  raise ⟨0x65, 0x09, f⟩ s2

/-! ### Cadence parameters (R451, R453, R459, R460) -/

/-- The limit of R_j in 1/65,536 sample a tick. -/
def rateMax (s : State) (sense : Bool) : Nat :=
  if sense then 65536 else if s.hub.speed = 1 then 7 * 65536 else 32 * 65536

/-- SRC_ADDR of a sense source selects no channel. -/
def senseNone (m : Store W) (p : Nat) : Bool := cadSense m p && decide (0x20 ≤ cadAddr m p)

/-- The stream of plot Pp. -/
def cadStream (m : Store W) (p : Nat) : Nat := (plotW m p 9).bits 2 0

/-- The rate fixed for a tick, and whether a clamp acted: ADJ within ADJ_LIM, the sum within the stream's limit. -/
def cadRateNow (s : State) (p : Nat) (adj : W) : Nat × Bool :=
  let m := (s.plot p).wc
  let eff := clampAdj (cadAdjLim m p) adj
  let sum := (cadRate m p : Int) + eff.toInt
  let r := max 0 (min (rateMax s (cadSense m p) : Int) sum)
  (r.toNat, decide (eff ≠ adj) || decide (r ≠ sum))

/-- Sample indices from position a, exclusive of position b, in 1/65,536 sample. -/
def ceilPos (a : Nat) : Nat := (a + 65535) / 65536

/-- The stream sends header-only packets (R450, R459). -/
def cadIdle (s : State) (p k : Nat) : Bool := (s.cad k).paramErr || cadRate (s.plot p).wc p = 0

/-- C1 has a running CULV plot that takes timed READs (R459); a plot that is paused or fenced has one (R18, R457). -/
def cadC1 (s : State) : Bool := kEnable s 0 && optOpen s (s.culvPlot 0)

/-- Where the samples of a tick that opens stand. -/
def openSamp (s : State) (m : Store W) (p : Nat) : SampSt :=
  if cadSense m p then (if s.pwr.phase = .rest then .missed else .waiting)
  else if cadC1 s then .missed else .failed

/-- The boundary that opened this tick was in holdover, or failed condition 5 of R3 (R31). -/
def tickHolds (s : State) : Bool := s.tick.st = .holdover
def tickUnlocked (s : State) : Bool := s.tick.st = .free || s.tick.st = .acquire || s.tick.endedStretch

/-- Every tick of a stream is discarded unsent; its samples count in LOST and set GAP (R449, R461; log 87). -/
def Stream.dropTicks (c : Stream) : Stream :=
  { c with
    ticks := [], lost := c.lost + BitVec.ofNat 16 ((c.ticks.map (fun t => t.samps.length)).sum)
    gap := c.gap || c.ticks.any (fun t => decide (t.samps.length ≠ 0)) }

/-- The tick that has opened, for the stream of plot Pp at position `pos` with ADJ `adj`: its rate and its samples
(R442, R451). A stream of header-only packets carries none (R450). -/
def fixTick (s : State) (p : Nat) (adj : W) (pos : Nat) (c : Stream) : Stream :=
  let m := (s.plot p).wc
  let r := cadRateNow s p adj
  let n := ceilPos (pos + r.1) - ceilPos pos
  let x := openSamp s m p
  let idle := cadIdle s p (cadStream m p)
  { (if idle then c.dropTicks else c) with
    adj := adj, adjNew := none, pos := pos, rate := r.1, clamped := r.2, running := true, due := 0
    failed := if x = .failed && !idle then c.failed + BitVec.ofNat 16 n else c.failed
    ticks := if idle then [] else c.ticks ++ [⟨s.tick.count, BitVec.ofNat 32 (ceilPos pos), BitVec.ofNat 32 r.1,
      tickHolds s, tickUnlocked s, r.2, s.tick.now, List.replicate n ⟨0, x⟩, false, false⟩] }

/-- The tick that has opened is taken back, to be fixed anew. -/
def unfixTick (s : State) (c : Stream) : Stream :=
  let n := ((c.ticks.filter (fun t => t.at_ = s.tick.now)).map
    (fun t => (t.samps.filter (fun x => x.st = .failed)).length)).sum
  { c with failed := c.failed - BitVec.ofNat 16 n, ticks := c.ticks.filter (fun t => t.at_ ≠ s.tick.now) }

/-- A CAD plot is applied: `fresh` when its stream starts from P = 0; the new RATE and ADJ_LIM hold for the tick that
opens at this boundary (R454, R459). -/
def applyCad (p : Nat) (fresh : Bool) (s : State) : State :=
  let m := (s.plot p).wc
  let k := cadStream m p
  if s.cadPlot k ≠ some p then raisePlot p 0x25 k s
  else
    let bad := senseNone m p
    let s1 := s.onCad k (fun c =>
      if fresh then { (unfixTick s c).dropTicks with
        pos := 0, rate := 0, clamped := false, staged := 0, stagedIds := [], due := 0, lastSense := 0, paramErr := bad }
      else { c with paramErr := bad })
    let s2 := if s.hub.fConfigured && (fresh || (s1.cad k).running) then
        s1.onCad k (fun c => { fixTick s1 p c.adj c.pos (unfixTick s1 c) with adjNew := c.adjNew })
      else s1
    if bad || decide (rateMax s (cadSense m p) < cadRate m p) then raisePlot p 0x25 k s2 else s2

/-! ### Type-C enabling (R500, R503, R504, R510) -/


/-- Set PD_EVT bits; with RX_ROUTE 1 a bit other than RX_MSG that becomes 1 sends a KIND 2 packet (R529). -/
def setPd (k t : Nat) (s : State) : State :=
  let was := (s.tc t).evt.getLsbD k
  let s1 := s.onTc t (fun q => { q with evt := q.evt ||| BitVec.ofNat 12 (2 ^ k) })
  if tcRxEp4 s t && k ≠ 2 && !was then
    pushIn 4 [mkW [(8, 2, t), (10, 2, 2)],
      mkW [(0, 16, (pdWord s1 t 1).toNat), (16, 16, (pdWord s1 t 0).toNat % 65536)]] s1
  else s1

/-- The Type-C logic issues a request to its port (R509, R510, R525). -/
def tcRequest (t : Nat) (on : Bool) (s : State) : State :=
  s.onPort (12 + t) (fun p => { p with tcReqs := p.tcReqs ++ [on] })

def enterTc (v : TcSt) (t : Nat) (s : State) : State :=
  s.onTc t (fun q => { q with st := v, since := s.tick.now, cnt := 0 })

/-- Leaving ATTACHED: both VCONN switches open, an OFF request, DETACH; a recovery ends and Rp returns to
SinkTxOK (R504, R510, R522, R525). -/
def leaveAttached (t : Nat) (s : State) : State :=
  if (s.tc t).st ≠ .attached then s
  else
    setPd 1 t (tcRequest t false (s.onTc t (fun q =>
      { q with
        vconn := false, hrBusy := false, hrAt := none, hrRemoved := false, offAt := none
        sinkNg := false, rpNow := if q.sinkNg then 3 else q.rpNow })))

def rpOff (t : Nat) (s : State) : State := s.onTc t (fun q => { q with rpNow := 0, vconn := false })

/-- UNATTACHED applies RP_LEVEL of the working copy (R506). -/
def tcUnattached (t : Nat) (s : State) : State :=
  (enterTc .unattached t s).onTc t (fun q => { q with rpNow := tcRpLevel s t })

/-- The device's state lets Type-C work (R504). -/
def tcPhase (s : State) : Bool :=
  s.pwr.phase = .run || s.pwr.phase = .quiesce || s.pwr.phase = .rest
    || (s.pwr.phase = .shutdown && s.pwr.started && decide (s.pwr.shutStep < 6))

/-- DISABLED or out of it, by EN, TC_EN and the device's state. -/
def tcSync (t : Nat) (s : State) : State :=
  if pEn s (12 + t) && tcEn s t && tcPhase s then
    if (s.tc t).st = .disabled then tcUnattached t s else s
  else if (s.tc t).st = .disabled then s
  else rpOff t (enterTc .disabled t (leaveAttached t s))

/-! ### Loading a working copy (R217, R237, R240, R385) -/

/-- Parcels plot Pp can hold: its cap, and what the free pool adds to what it has (R223). -/
def parcelLimit (p : Nat) (s : State) : Nat :=
  min (cParcelCap (s.plot p).wc p) (freeParcels s + (s.plot p).parcels.length)

/-- Plot Pp holds n parcels from now on: it takes or gives back the difference. -/
def holdParcels (p n : Nat) (s : State) : State :=
  let h := (s.plot p).parcels.length
  if n ≤ h then giveParcels p (h - n) s else takeParcels p (n - h) s

/-- Each enabled quiet range takes 2 parcels of the plot's cap; one that cannot sets PF_NOBUF (R385). -/
def takeQuiet (p : Nat) (s : State) : State :=
  let want := (List.range 8).filter (fun r => kQrLen s r ≠ 0)
  let got := want.take (parcelLimit p s / 2)
  (holdParcels p (2 * got.length) s).onCulv 0 (fun k =>
    { k with pfBuf := got, pfWant := [], evt := if got.length < want.length then k.evt ||| 0x40 else k.evt })

/-- The buffers of a TT plot take parcels under its cap. How many is open (R288; log 25). -/
def takeTt (p : Nat) (s : State) : State := holdParcels p (min (parcelLimit p s) (Config.ttParcels p).toNat) s

/-- A culvert block of C1 that changed: its buffers fall and are taken anew (R384, R385). -/
def applyCulv (p : Nat) (changed : Bool) (s : State) : State :=
  if cCulvert (s.plot p).wc p = 1 && changed then takeQuiet p (dropAllBufs s) else s

/-- The ports of a warden: EN 0 turns a port off, and Type-C follows its word (R464, R504). -/
def applyWarden (p : Nat) (s : State) : State :=
  forEach ((List.range 16).filter (fun n => maskHas (cPortMask (s.plot p).wc p) n)) (fun n s =>
    let s1 := if !pEn s n && (s.port n).st ≠ .off && (s.port n).st ≠ .discharge then
        s.onPort n (fun q => { q with reqs := q.reqs ++ [false] }) else s
    if 12 ≤ n then tcSync (n - 12) s1 else s1) s

/-- A TAND plot starts in LISTEN (R414). -/
def startTand (s : State) : State :=
  s.onTand (fun t => { t with
    st := .listen, startAt := s.tick.now, linkUp := false, mirrored := false, syncing := false, beatRun := 0, beatMiss := 0
    heardKeeper := false, beatTick := false })

/-- The endpoints the rack function serves from plot Pp. -/
def epsOf (s : State) (p : Nat) : List Nat := (List.range 16).filter (fun e => e ≠ 0 && s.funcPlot e = some p)

/-- Both directions of endpoint e. -/
def onBothEps (e : Nat) (f : FEp → FEp) (s : State) : State := (s.onEp e f).onEp (e + 16) f

/-- What waits for the buffers of an endpoint is work of the plot that serves it now. -/
def readyWaits (s : State) : State :=
  forEach ((List.range 16).filter (fun e => !(s.ep (e + 16)).wait.isEmpty)) readyEp s

/-- A role the plot no longer has gives up what it held; what a FUNC plot had not handed on yet goes on
(log 86). -/
def leaveRole (p : Nat) (m : Store W) (s : State) : State :=
  let r := cRole m p
  let s1 := giveParcels p (s.plot p).parcels.length (s.onPlot p (fun q => { q with ready := [] }))
  if r = rTAND then s1.onTand (fun t => { t with st := .off, linkUp := false, mirrored := false, syncing := false })
  else if r = rCULV && cCulvert m p = 1 then (dropAllBufs s1).onCulv 0 (fun k => { k with pfBuf := [], pfWant := [] })
  else if r = rFUNC then
    forEach (epsOf s p) (fun e => onBothEps e (fun q => { q with k := 0 }))
      (forEach (s.plot p).ready (fun x s => if x.ref < 0x8000 then passOp x.ref s else s) s1)
  else s1

/-- Operations of culvert c that wait for an item of its CULV plot have one in plot Pp, which has become that plot. -/
def readyCulv (c p : Nat) (s : State) : State :=
  forEach ((s.culv c).ops.filter (fun o =>
    !o.fed && !o.closed && !(s.plot o.req).ready.contains ⟨classCode o.cls, o.id⟩))
    (fun o => readyItem p (classCode o.cls) o.id) s

/-- What a role does when its working copy is loaded over `old`. -/
def enterRole (p : Nat) (old : Store W) (s : State) : State :=
  let m := (s.plot p).wc
  let r := cRole m p
  if r = rTT then takeTt p s
  else if r = rCULV then
    readyCulv (cCulvert m p - 1) p
      (applyCulv p (cRole old p ≠ r || (sliceStore old 0x30000 0x30200) ≠ (sliceStore m 0x30000 0x30200)) s)
  else if r = rWARD then applyWarden p s
  else if r = rCAD then
    applyCad p (cRole old p ≠ r || cadStream old p ≠ cadStream m p || cadSense old p ≠ cadSense m p) s
  else if r = rTAND then (if s.tand.st = .off && !(s.plot p).seized then startTand s else s)
  else s

/-- Pp runs `m` from now on, with the epoch of this step. -/
def loadPlot (p : Nat) (m : Store W) (s : State) : State :=
  let old := (s.plot p).wc
  let s1 := if cRole old p ≠ cRole m p then leaveRole p old s else s
  let s2 := s1.onPlot p (fun q => { q with wc := m, epoch := s.cfg.epoch.setWidth 16, reloadWc := false })
  readyWaits (enterRole p old (s2.onCfg (fun c => { c with pend := c.pend.filter (· ≠ p) })))

/-- Device-scope words are applied: the Hayward's table, the routing matrix and the words no plot owns (R217, R218,
R237, R387). -/
def loadDevice (s : State) : State :=
  s.onCfg (fun c =>
    { c with
      devScope := extractDevice c.space
      hwTable := sliceStore c.space 0x50000 0x50400
      route := sliceStore c.space 0x70000 0x70040
      routeOn := true })

/-! ### Restarting a plot in its role's initial state (R559, R594) -/

/-- What came for a FUNC or CULV plot while it was held is its first work. -/
def restartPlot (p : Nat) (s : State) : State :=
  let r := s.role p
  let s1 := s.onPlot p (fun q =>
    { q with ready := if r = rFUNC || r = rCULV then q.ready else [], restart := false, running := none })
  if r = rWARD then
    forEach ((List.range 16).filter (fun n => maskHas (cPortMask (s.plot p).wc p) n)) (fun n s => s.onPort n (fun q =>
      { q with v := { q.v with recent := [], pair := none }, i := { q.i with recent := [], pair := none }
               ocRun := 0, lowRun := 0, post := [], marks := [] })) s1
  else if r = rCAD then
    s1.onCad (cadStream (s.plot p).wc p) (fun c => { c.dropTicks with
      pos := 0, rate := 0, staged := 0, stagedIds := [], due := 0, adj := 0, adjNew := none })
  else if r = rTT then takeTt p s1
  else if r = rCULV then (if cCulvert (s.plot p).wc p = 1 then takeQuiet p s1 else s1)
  else if r = rTAND then startTand s1
  else s1

/-! ### Self-fence (R426, R431, R561) -/

/-- A keeper gives up C1: it enters FENCED and its C1 entries close POISONED. -/
def selfFence (s : State) : State :=
  if s.tand.st ≠ .keeper then s
  else
    let s1 := poisonCulv 0 s
    let s2 := (releaseC1 s1).onTand (fun t => { t with st := .fenced, mirrored := false, syncing := false, evt := t.evt ||| 0x08 })
    match s.tandPlot with
    | some p => raisePlot p 0x1F 0 s2
    | none => s2

end Sys2Proof.Machine
end

