-- ==== Sys2Proof/Machine/HayOps.lean ====
section
/-!
DEFINITION. The shared operations of the Hayward (chapter 13): messages, hardware assertions, seizing plots, the
safe states, counting and severity, and release.
-/

namespace Sys2Proof.Machine

/-! ### Messages (R543, R549 to R551) -/

def msgWord (e : Event) : W := mkW [(0, 18, e.addr), (18, 6, e.kind), (24, 8, e.src)]

/-- A message enters the queue and the endpoint 3 ring; `kept` for the four kinds of R549 that have 4 places of
their own. -/
def writeMsg (kept : Bool) (w : W) (s : State) : State :=
  let s1 := s.onHub (fun h =>
    { h with
      ring := (if h.ring.length < 64 then h.ring else h.ring.drop 1) ++ [w]
      ringLost := h.ringLost || decide (64 ≤ h.ring.length)
      ringOut := if h.ring.length < 64 then h.ringOut else h.ringOut.map (fun o => (o.1 - 1, o.2)) })
  s1.onHay (fun h =>
    if h.queue.length < (if kept then 64 else 60) then { h with queue := h.queue ++ [w] } else { h with qovf := true })

/-! ### FAULT_N (R565) -/

/-- A hardware assertion starts or restarts MIN_RUN and sets HOLD. -/
def hwAssert (s : State) : State :=
  s.onHay (fun h => { h with minRun := true, hold := true, holdClr := false, minLen := fminEff h.fmin })

/-! ### Seizure (R338, R394, R426, R559) -/

/-- Every open entry plot Pp owns closes POISONED. -/
def poisonEntries (p : Nat) (s : State) : State :=
  let s1 := poisonOps (fun _ o => (s.entry o.id).owner = p) s
  let s2 := forEach (s1.hub.splits.filter (fun x => !x.closed && (s1.entry x.id).owner = p))
    (closeSplit · .poisoned) s1
  forEach ((openEntries s2).filter (fun e => e.2.owner = p)) poisonLone s2

/-- What a FUNC plot's buffers hold is gone with it, and its endpoints are in the fixed mode (log 85). -/
def emptyEps (p : Nat) (s : State) : State :=
  if s.role p = rFUNC then
    forEach (epsOf s p) (fun e => onBothEps e (fun q => { q with k := 0, pkts := [], wait := [], drop := false })) s
  else s

/-- What a seized plot's role gives up; `ports` when a warden's ports take their safe state (R556, R594). -/
def seizeRole (ports : Bool) (p : Nat) (s : State) : State :=
  let r := s.role p
  let c := cCulvert (s.plot p).wc p - 1
  if r = rWARD then if !ports then s else forEach ((List.range 16).filter (fun n => maskHas (cPortMask (s.plot p).wc p) n)) safePort s
  else if r = rCULV then
    let s1 := (poisonCulv c s).onCulv c (fun k => { k with sems := [] })
    if c = 0 then (dropAllBufs (releaseC1 s1)).onCulv 0 (fun k => { k with pfBuf := [], pfWant := [] }) else s1
  else if r = rTAND then
    let s1 := selfFence s
    s1.onTand (fun t => { t with st := if t.st = .fenced then .fenced else .off, linkUp := false, mirrored := false, syncing := false })
  else s

/-- R559: the plot stops at once, its item is rolled back, and everything it holds is taken. The POISONED results of its
own operations wait for it to run again (R289, R351). -/
def takePlot (ports : Bool) (p : Nat) (s : State) : State :=
  if (s.plot p).seized then s
  else
    let s1 := (stopItem p (rollSluices p s)).onPlot p (fun q => { q with seized := true, restart := true, ready := [] })
    let s2 := seizeRole ports p (poisonEntries p (emptyEps p s1))
    let s3 := forEach [0, 1, 2] (freeSems (fun m => m.holder = p && !m.partner)) s2
    giveParcels p (s3.plot p).parcels.length (seizeSluices p s3)

def seizePlot (p : Nat) (s : State) : State := takePlot true p s

/-! ### Safe states (R557, R561, R567) -/

/-- A culvert takes its safe state: its entries close POISONED, the bus or the string is let go, the buffers fall. -/
def culvSafe (c : Nat) (s : State) : State :=
  let s1 := (poisonCulv c s).onCulv c (fun k => { k with safe := true })
  if c = 0 then dropAllBufs (releaseC1 (selfFence s1))
  else s1.onCulv c (fun k => { k with ser := .idle, ops := k.ops.filter (fun o => !o.closed), chainNow := 0 })

/-- A cause of R567: 1 software, 2 self parity, 3 a source of scope DEVICE. -/
def enterSafe (cause src : Nat) (s : State) : State :=
  let s1 := hwAssert (writeMsg true (msgWord ⟨0x6F, 0x3C, cause + 256 * src⟩) s)
  if s.hay.safeDev then s1
  else
    let s2 := s1.onHay (fun h => { h with safeDev := true })
    let s3 := forEach (List.range 63) seizePlot s2
    forEach [0, 1, 2] culvSafe (forEach (List.range 16) safePort s3)

/-- The scope of a source that becomes severe (R556). -/
def applyScope (c : Nat) (sc : Scope) (s : State) : State :=
  match sc with
  | .none => s
  | .device => enterSafe 3 c s
  | _ =>
    if 1 ≤ c && c ≤ 0x3F then
      let p := c - 1
      let m := (s.plot p).wc
      let s1 := seizePlot p s
      if sc = .group then
        let s2 := forEach ((List.range 16).filter (fun n => maskHas (cPortMask m p) n)) safePort s1
        if cCulvert m p ≠ 0 then culvSafe (cCulvert m p - 1) s2 else s2
      else s1
    else if 0x41 ≤ c && c ≤ 0x50 then safePort (c - 0x41) s
    else if 0x51 ≤ c && c ≤ 0x53 then
      let k := c - 0x51
      let s1 := culvSafe k s
      if sc = .group then
        let s2 := match s.culvPlot k with
          | some p => seizePlot p s1
          | none => s1
        match (if k = 0 then s.tandPlot else none) with
        | some p => seizePlot p s2
        | none => s2
      else s1
    else s

/-! ### Severity (R252, R432, R553 to R556, R562) -/

def State.onSrc (c : Nat) (f : SrcSt → SrcSt) (s : State) : State :=
  s.onHay (fun h => { h with srcs := wrStore noSrc h.srcs c (f (rdStore noSrc h.srcs c)) })

/-- The partner's request `id` is rejected with a reason (R432). -/
def rejectPartner (id detail : Nat) (w : W) (s : State) : State :=
  sendFrame (.fwdRes id (resultHead (w.bits 7 0) 1 (w.bits 12 10) 7 detail 0 false none 0)) s

/-- What a keeper holds for its partner is taken when its TAND plot's source becomes severe, and the partner's requests
that wait here are rejected (R432). -/
def seizePartner (c : Nat) (s : State) : State :=
  if s.tandPlot = some (c - 1) && c ≠ 0 && s.tand.st = .keeper then
    let s1 := freeSems Sem.partner 0 (poisonOps (fun _ o => o.req = 0x59) s)
    (forEach s1.tand.rxWait (fun f => rejectPartner f.1 2 (f.2.2.headD 0)) s1).onTand (fun t => { t with rxWait := [] })
  else s

/-- A source becomes severe by an event of `kind`. -/
def becomeSevere (c kind : Nat) (s : State) : State :=
  let sc := safeScope s.nvm.opt c
  let s1 := s.onSrc c (fun q => { q with severe := true, scope := sc, entries := q.entries + 1 })
  let s2 := writeMsg true (msgWord ⟨c, 0x3D, kind + 64 * sc.code⟩) s1
  let s3 := if safeFault s.nvm.opt c then hwAssert s2 else s2
  let s4 := if 1 ≤ c && c ≤ 0x3F then seizePartner c (dropUpdate (c - 1) s3) else s3
  applyScope c sc s4

/-- The hold runs anew from now. -/
def restartHold (c : Nat) (s : State) : State :=
  s.onSrc c (fun q => if q.severe then { q with hold := (holdTicks s c).map (s.tick.now + ·) } else q)

/-- One counted event of a source in collector mode (R553, R555). -/
def countEvent (c kind : Nat) (s : State) : State :=
  let s1 := s.onSrc c (fun q => { q with stamps := (s.tick.now :: q.stamps).take 15 })
  let q := s1.src c
  let full := match q.stamps[effN s c - 1]? with
    | some t => decide (s.tick.now - t < effW s c)
    | none => false
  restartHold c (if !q.severe && full then becomeSevere c kind s1 else s1)

/-- A hazard event, in either mode (R544, R553). -/
def hazardEvent (c kind : Nat) (s : State) : State :=
  restartHold c (if isSevere s c then s else becomeSevere c kind s)

/-- The class of a kind (R542): information kinds are never counted. -/
def kindInfo (k : Nat) : Bool :=
  [0x06, 0x07, 0x16, 0x1D, 0x1E, 0x25, 0x37, 0x3C, 0x3D, 0x3F].contains k
def kindHazard (k : Nat) : Bool := k = 0x36 || k = 0x3E

/-- The Hayward latches an event (R547, R549, R553). -/
def latchEvent (e : Event) (s : State) : State :=
  let s1 := if s.hay.mode && srcCollect s.cfg.hwTable e.src then writeMsg false (msgWord e) s else s
  if kindHazard e.kind then hazardEvent e.src e.kind s1
  else if kindInfo e.kind || !s.hay.mode then s1
  else countEvent e.src e.kind s1

/-! ### Who holds what (R556, R562, R569, R595) -/

def scopeIs (s : State) (c : Nat) (group : Bool) : Bool :=
  let q := s.src c
  q.severe && (q.scope = .group || (!group && q.scope = .self))

/-- Some severe source, or the device safe state, holds plot Pp. -/
def heldPlot (s : State) (p : Nat) : Bool :=
  s.hay.safeDev || scopeIs s (p + 1) false
    || [0, 1, 2].any (fun c => scopeIs s (0x51 + c) true
        && (s.culvPlot c = some p || (c = 0 && s.tandPlot = some p)))

def heldPort (s : State) (n : Nat) : Bool :=
  s.hay.safeDev || scopeIs s (0x41 + n) false
    || (match s.warden n with | some p => scopeIs s (p + 1) false || (s.plot p).stranded | none => false)
    || (List.range 63).any (fun p => scopeIs s (p + 1) true && maskHas (cPortMask (s.plot p).wc p) n)

def heldCulv (s : State) (c : Nat) : Bool :=
  s.hay.safeDev || scopeIs s (0x51 + c) false
    || (List.range 63).any (fun p => scopeIs s (p + 1) true && cCulvert (s.plot p).wc p = c + 1)

/-- Ports that nothing holds any more accept ON requests again (R562). -/
def freePorts (s : State) : State :=
  forEach (List.range 16) (fun n s => if heldPort s n then s else s.onPort n (fun p => { p with safe := false })) s

/-- At a boundary: culverts issue again, and plots run again, that nothing holds any more; a plot only once its
parcels have been returned (R562). -/
def freeHeld (s : State) : State :=
  let s1 := forEach [0, 1, 2] (fun c s => if heldCulv s c then s else s.onCulv c (fun k => { k with safe := false })) s
  forEach ((List.range 63).filter (fun p => (s1.plot p).seized)) (fun p s =>
    if heldPlot s p || !(s.plot p).zeroing.isEmpty || (s.plot p).stranded || (s.plot p).reloadWc then s
    else
      let s2 := freeSluices p (s.onPlot p (fun q => { q with seized := false }))
      if (s2.plot p).restart then restartPlot p s2 else s2) s1

/-- A source leaves severe (R562, R563). -/
def releaseSource (c : Nat) (s : State) : State :=
  freePorts (writeMsg true (msgWord ⟨c, 0x3F, 0⟩) (s.onSrc c (fun q => { q with severe := false, hold := none })))

/-! ### MODE (R544 to R546) -/

/-- MODE takes effect at a commit boundary. -/
def applyMode (s : State) : State :=
  if s.cfg.hwMode = s.hay.mode then s
  else
    let s1 := s.onHay (fun h =>
      { h with mode := s.cfg.hwMode, srcs := mapStore noSrc (fun _ q => { q with stamps := [] }) h.srcs })
    if s.cfg.hwMode && s.nvm.seedCopyHeld then
      (writeMsg false (msgWord ⟨0x62, 0x06, 0⟩) s1).onNvm (fun n => { n with seedCopyHeld := false })
    else s1

end Sys2Proof.Machine
end

