-- ==== Sys2Proof/Machine/ResetOps.lean ====
section
/-!
DEFINITION. The resets (chapter 3): device reset with its record and its hold for a pulse under way, reset of the
rack function (R295), and upstream bus reset (R101, R294).
-/

namespace Sys2Proof.Machine

/-! ### Seed-store words cut or torn (R130, R131) -/

/-- An erased word, which an unlisted seed word is (R212, R219). -/
def erasedWord : NvmWord := ⟨0xFFFFFFFF, .good⟩
def State.seedWord (s : State) (a : Nat) : NvmWord := rdStore erasedWord s.nvm.store a
def State.setSeed (a : Nat) (w : NvmWord) (s : State) : State :=
  s.onNvm (fun n => { n with store := wrStore erasedWord n.store a w })

/-- A write pulse whose rails left the limits may leave a torn word: each bit erased or as written. -/
def tearWord (a : Nat) (v : W) (s : State) : State :=
  if Config.tears s.free then
    (s.setSeed a ⟨v ||| Config.tornBits s.free, .double⟩).took
  else (s.setSeed a ⟨v, .good⟩).took

/-- A cut erase leaves each word of the sector erased, unchanged, failing, or passing with other data. -/
def cutSector (a : Nat) (s : State) : State :=
  forEach ((List.range 512).map (fun i => 512 * (a / 512) + i)) (fun i s =>
    let s1 := match (Config.cutWord s.free).toNat with
      | 0 => s.setSeed i erasedWord
      | 1 => s
      | 2 => s.setSeed i ⟨Config.cutData s.free, .double⟩
      | _ => s.setSeed i ⟨Config.cutData s.free, .good⟩
    s1.took) s

/-- What a device reset does to an NVM or fuse operation under way: a write and a blow go on, an erase is cut; with
`tears`, rails outside the limits end a pulse at once. -/
def resetPulses (tears : Bool) (s : State) : State :=
  let s1 := match s.nvm.op with
    | some (.erase, a, _) => (cutSector a s).onNvm (fun n => { n with op := none })
    | some (.write, a, v) => if tears then (tearWord a v s).onNvm (fun n => { n with op := none }) else s
    | none => s
  if s1.nvm.fBusy && tears && Config.tears s1.free then (s1.onNvm (fun n => { n with fTorn := true })).took
  else s1

/-! ### Device reset (R98 to R101, R141, R142) -/

/-- The record of a cause: its bit and LAST. -/
def recordCause (code : Nat) (s : State) : State :=
  s.onStby (fun b =>
    { b with
      por := b.por || code = 1, brownout := b.brownout || code = 2, pin := b.pin || code = 3
      soft := b.soft || code = 4, wdog := b.wdog || code = 5, shutdown := b.shutdown || code = 6, last := code })

/-- The order in which LAST names causes that act together (R142). -/
def causeRank (code : Nat) : Nat := if code = 5 then 4 else if code = 4 then 5 else code

/-- A cause that acts together with the reset under way: its bit, and LAST where it comes first. -/
def joinCause (code : Nat) (s : State) : State :=
  let last := s.stby.last
  (recordCause code s).onStby (fun b =>
    { b with last := if last ≠ 0 && decide (causeRank last < causeRank code) then last else code })

/-- Every part but the standby domain, the seed store with its pulse, the fuse, the TAP and the levels the world
holds on the balls takes its reset value. A wait of R77 for VIO_C1 ends with the reset, and the bank is released by
its mode decision alone: DESIGN CHOICE (log 72). -/
def resetParts (s : State) : State :=
  { State.reset with
    pwr := { Pwr.reset with
      phase := s.pwr.phase, railsLow := s.pwr.railsLow, rstN := s.pwr.rstN, porDone := s.pwr.porDone
      testmode := s.pwr.testmode, wdogJoin := s.pwr.wdogArmed, vioOk := s.pwr.vioOk, vioMode := s.pwr.vioMode
      c1Reset := !s.pwr.vioOk || s.pwr.vioMode.isNone, vconnIn := s.pwr.vconnIn }
    stby := s.stby
    nvm := { Nvm.reset with
      store := s.nvm.store, op := s.nvm.op, fBlown := s.nvm.fBlown, fTorn := s.nvm.fTorn, fBusy := s.nvm.fBusy
      fCut := s.nvm.fBusy }
    hub := { Hub.reset with vbus := s.hub.vbus }
    culvs := { Culvs.reset with latn := s.culvs.latn, pfail := s.culvs.pfail }
    tap := s.tap
    free := s.free
    pending := s.pending }

/-- A pulse holds reset release (R130, R605). -/
def pulseHeld (s : State) : Bool := s.nvm.op.isSome || s.nvm.fBusy

/-- Reset release, if nothing holds it: power-on release, RST_N high, no pulse (R75, R130). -/
def tryRelease (s : State) : State :=
  if s.pwr.porDone && s.pwr.rstN && !pulseHeld s then s.onPwr (fun p => { p with phase := .seeding })
  else s.onPwr (fun p => { p with phase := if p.porDone then .held else .powerOn })

/-- A device reset asserts with a cause, and releases again when nothing holds it. -/
def deviceReset (code : Nat) (tears : Bool) (s : State) : State :=
  tryRelease (resetParts (recordCause code (resetPulses tears s)))

/-! ### Reset of the rack function (R293, R295, R380, R535, R551) -/

/-- An operation that a rack-function endpoint of this device opened. -/
def fromHost (o : COp) : Bool := o.req ≠ 0x59 && (o.ep = 1 || o.ep = 2) && o.kind ≠ .prefetch && o.kind ≠ .timed

/-- Parcels of the carved endpoints go back under zero-fill; every endpoint is in the fixed mode and empty. -/
def dropEndpoints (s : State) : State :=
  let s1 := forEach (s.hub.eps) (fun e s =>
    match s.funcPlot (e.1 % 16) with
    | some p => giveParcels p e.2.k s
    | none => s) s
  s1.onHub (fun h => { h with eps := [] })

/-- The class in which a request of endpoint `ep` is forwarded. -/
def fwdClass (s : State) (ep : Nat) : TClass := epClass s ((s.funcPlot ep).getD 63) ep

/-- Requests forwarded to the keeper are cancelled: those not sent close CANCELLED, those sent CANCELLED_LATE with a
CANCEL to the keeper (R419); no result returns where `mute`. -/
def cancelForwarded (mute : Bool) (s : State) : State :=
  let s1 := forEach (s.tand.toSend.filter (fun f => f.1 < noId)) (fun f => closeFwd mute f.1 .cancelled 0) s
  let s2 := s1.onTand (fun t => { t with toSend := t.toSend.filter (fun f => f.1 = noHost) })
  (forEach (s.tand.fwd.filter (fun f => f.1 < noId)) (fun f s =>
    let tag := (f.2.1.headD 0).bits 7 0
    queueFwd noHost (fwdClass s f.2.2) (cancelWords tag tag) (closeFwd mute f.1 .cancelledLate 0 s)) s2).onTand (fun t =>
      { t with fwd := [] })

/-- R295 on a tandem follower, which also releases what it holds at the keeper (R380). -/
def dropForwarded (s : State) : State :=
  (forEach s.tand.held (fun h s =>
    queueFwd noHost (fwdClass s h.2) [reqWord0 0 1 5 false false false 0, mkW [(16, 3, h.1)]] s)
    (cancelForwarded true s)).onTand (fun t => { t with held := [] })

/-- ADJ returns to 0 (R453). -/
def clearAdj (s : State) : State := s.onCads (fun l => l.map (fun c => { c with adj := 0, adjNew := none }))

/-- A reset of port 17, or the rack-function side of an upstream bus reset. -/
def resetFunction (s : State) : State :=
  let s1 := dropForwarded (cancelOps true fromHost s)
  let s2 := forEach [0, 1, 2] (freeSems (fun m => !m.partner && m.ep ≠ 0)) s1
  let s3 := clearAdj (dropEndpoints s2)
  let s4 := s3.onTcs (fun l => l.map (fun q => { q with ep4 := [] }))
  s4.onHub (fun h =>
    { h with
      fAddr := 0, fConfigured := false, fRwake := false, fSusp := false
      ring := [], ringLost := false, ringSeq := 0, ringOut := none })

/-! ### Upstream bus reset (R101, R182, R257, R294, R339) -/

/-- A split cancelled by where it stands. -/
def cancelSplit (x : Split) (s : State) : State :=
  closeSplit x (if x.onWire then .cancelledLate else .cancelled) s

/-- The ports report Powered-off, their power kept. -/
def resetPortReports (s : State) : State :=
  (forEach (List.range 16) (fun n s => s.onHubPort n (fun h =>
    { h with
      st := .poweredOff, speed := .none, cConn := false, cEn := false, cSusp := false, cOc := false, cRst := false
      act := [], deadline := 0, test := 0, devResume := false, detect := [] })) s).onPorts (fun l => l.map (fun p => { p with hostOn := false }))

def busReset (hs : Bool) (s : State) : State :=
  let s1 := forEach (s.hub.splits.filter (fun x => !x.closed)) cancelSplit s
  let s2 := resetPortReports (resetFunction (rewindPeer (fun p => p = 0x40) s1))
  let s3 := (s2.onUWin (fun w => { w with iwa := 0, step := 1, dir := false, page := false, rdy := false })).onUsb (fun u =>
    { u with active := false })
  (s3.onHub (fun h =>
    { h with
      speed := if hs then 2 else 1, susp := false, configured := false, addr := 0, rwake := false, mtt := false
      driveK := false, wakeCond := false, halted := [], ttReset := []
      busResets := satInc h.busResets 65535
      ports := updNth h.ports 16 (fun _ => HubPort.reset17) })).onStby (fun b => { b with usbrst := true })
    |>.onPwr (fun p => { p with noRest := p.noRest && !s.hub.susp })

end Sys2Proof.Machine
end

