-- ==== Sys2Proof/Machine/TypeCOps.lean ====
section
/-!
DEFINITION. The shared operations of the PD physical layer and its mailbox (chapter 12): endpoint 4 results, ending
a SEND, MessageID state, Hard Reset, and the command word PD_CMD.
-/

namespace Sys2Proof.Machine

/-! ### Endpoint 4 packets (R528, R529) -/

/-- The result of an endpoint 4 request on DP13 + t: KIND 0 with its RESULT. -/
def ep4Result (t tag result : Nat) (s : State) : State :=
  pushIn 4 [mkW [(0, 8, tag), (8, 2, t), (12, 3, result)], s.tick.count] s

/-- The endpoint 4 requests of an OP end, each with its one result; those dropped with the endpoint give none
(R535). -/
def ep4Done (t op result : Nat) (s : State) : State :=
  forEach ((s.tc t).ep4.filter (fun e => e.1 = op)) (fun e s => ep4Result t e.2 result s)
    (s.onTc t (fun q => { q with ep4 := q.ep4.filter (fun e => e.1 ≠ op) }))

/-! ### Ending a SEND (R519, R520) -/

/-- The SEND under way ends with a TX_RESULT. -/
def pdFinish (r t : Nat) (s : State) : State :=
  let s1 := setPd 3 t (s.onTc t (fun q =>
    { q with phy := .idle, cancelled := false, txResult := r, txFails := if r = 2 then q.txFails + 1 else q.txFails }))
  let s2 := if r = 2 then raisePort (12 + t) 0x32 s1 else s1
  ep4Done t 0 r s2

/-- A SEND that has not ended is cleared with a TX_RESULT. -/
def pdClear (r t : Nat) (s : State) : State := if (s.tc t).phy = .idle then s else pdFinish r t s

/-! ### MessageID state (R517, R518, R523, R526) -/

def resetIds (sops : Nat → Bool) (t : Nat) (s : State) : State :=
  s.onTc t (fun q =>
    { q with
      ids := (List.range 3).map (fun k => if sops k then 0 else q.ids.getD k 0)
      rxIds := (List.range 3).map (fun k => if sops k then none else q.rxIds.getD k none) })

/-- A message header of Soft_Reset: type 13, no data objects, not extended. -/
def isSoftReset (bytes : List Byte) : Bool :=
  let h := (bytes.getD 0 0).toNat + 256 * (bytes.getD 1 0).toNat
  h % 32 = 13 && h / 4096 % 16 = 0

/-- The bytes of the transmit mailbox. -/
def txMessage (q : TcPort) : List Byte := (q.txBytes.flatMap W.bytes).take (q.txDesc.bits 12 8)

/-! ### SEND (R518, R519, R522) -/

/-- REFUSE_WHY of a SEND, 0 when it is taken; tested in the order of the codes. -/
def sendRefused (s : State) (t : Nat) : Nat :=
  let q := s.tc t
  let sop := q.txDesc.bits 1 0
  let len := q.txDesc.bits 12 8
  if txBusy q then 1
  else if q.st ≠ .attached then 2
  else if (sop = 1 || sop = 2) && !q.vconn then 3
  else if len < 2 || 30 < len || sop = 3 then 4
  else if q.hrSend then 5
  else 0

/-- SEND of the transmit mailbox, from PD_CMD or from endpoint 4 with a TAG. -/
def pdSend (tag : Option Nat) (t : Nat) (s : State) : State :=
  let why := sendRefused s t
  if why ≠ 0 then
    let s1 := setPd 3 t (s.onTc t (fun q => { q with txResult := 7, refuseWhy := why }))
    match tag with
    | some g => ep4Result t g 7 s1
    | none => s1
  else
    s.onTc t (fun q =>
      let wait := tcCollAvoid s t && q.rpNow = 3 && q.txDesc.bit 2
      { q with
        phy := if wait then .amsWait else .pending
        rpNow := if wait then 2 else q.rpNow
        sinkNg := q.sinkNg || wait
        cancelled := false, txTries := 0, txSop := q.txDesc.bits 1 0
        txEp4 := tag.isSome
        ep4 := match tag with
          | some g => q.ep4 ++ [(0, g)]
          | none => q.ep4 })

/-- CANCEL: before the preamble CANCELLED, after it the frame finishes CANCELLED_LATE (R532). -/
def pdCancelSend (t : Nat) (s : State) : State :=
  match (s.tc t).phy with
  | .idle => s
  | .gcrcWait => s.onTc t (fun q => { q with cancelled := true })
  | _ => pdFinish 4 t s

/-! ### Hard Reset (R522 to R525) -/

/-- Rp returns to SinkTxOK. -/
def sinkTxOk (t : Nat) (s : State) : State :=
  s.onTc t (fun q => { q with sinkNg := false, rpNow := if q.sinkNg then 3 else q.rpNow })

/-- What follows any Hard Reset, sent or received. -/
def afterHardReset (t : Nat) (s : State) : State :=
  let s1 := sinkTxOk t (resetIds (fun _ => true) t s)
  let s2 := s1.onTc t (fun q =>
    let rec_ := tcHrAuto s t && q.st = .attached
    { q with
      hrCount := q.hrCount + 1
      hrRail := q.hrRail || (s.port (12 + t)).rail
      hrBusy := q.hrBusy || rec_
      hrAt := if rec_ then some s.tick.now else q.hrAt
      hrVconn := if rec_ then q.vconn else q.hrVconn
      hrRemoved := if rec_ then false else q.hrRemoved
      offAt := if rec_ then none else q.offAt })
  raisePort (12 + t) 0x33 s2

def pdHardReset (t : Nat) (s : State) : State := (pdClear 6 t s).onTc t (fun q => { q with hrSend := true })

/-! ### PD_CMD (R538) -/

/-- A command other than SEND was refused. -/
def pdRefuse (t : Nat) (s : State) : State := setPd 11 t s

/-- CABLE_RESET under R514 and R523. -/
def pdCableReset (t : Nat) (s : State) : State :=
  if (s.tc t).vconn then (pdClear 6 t s).onTc t (fun q => { q with crSend := true }) else pdRefuse t s

def pdPop (t : Nat) (s : State) : State :=
  if (s.tc t).rxCount = 0 then pdRefuse t s
  else s.onTc t (fun q => { q with rxCount := q.rxCount - 1, rxHead := (q.rxHead + 1) % 8 })

def pdFlush (t : Nat) (s : State) : State :=
  if (s.tc t).rxCount = 0 then pdRefuse t s
  else s.onTc t (fun q => { q with rxCount := 0, rxHead := (q.rxHead + q.rxCount) % 8 })

def pdVconnOn (t : Nat) (s : State) : State :=
  if vconnAllowed s t then s.onTc t (fun q => { q with vconn := true }) else pdRefuse t s

/-- A command of the port; nothing with TC_EN at 0 (R500). -/
def pdCommand (t cmd arg : Nat) (s : State) : State :=
  if !tcEn s t then s
  else match cmd with
    | 1 => pdSend none t s
    | 2 => pdHardReset t s
    | 3 => pdCableReset t s
    | 4 => pdCancelSend t s
    | 5 => pdPop t s
    | 6 => pdVconnOn t s
    | 7 => vconnOpen t s
    | 8 => if arg = 0 then s else s.onTc t (fun q => { q with rpReq := some arg })
    | 9 => sinkTxOk t s
    | 10 => s.onTc t (fun q =>
        if q.st = .disabled || q.st = .ccFault then q else { q with recReq := true })
    | 11 => s.onTc t (fun q => { q with bist := true })
    | 12 => pdFlush t s
    | _ => s

end Sys2Proof.Machine
end

