-- ==== Sys2Proof/Machine/CmdOps.lean ====
section
/-!
DEFINITION. What the commands written to the registers and command words do: the port command word, power-state
requests, the NVM controller and the fuse, FALLOW_CTL, opening, committing and fencing the configuration.
-/

namespace Sys2Proof.Machine

/-! ### The port command word (R464, R468, R480, R481, R491, R496, R507) -/

/-- An ON or OFF request of CMD or of the host; on a Type-C port it sets or clears WANT. -/
def requestPort (on : Bool) (n : Nat) (s : State) : State :=
  let s1 := s.onPort n (fun p => { p with reqs := p.reqs ++ [on] })
  if 12 ≤ n && tcEn s (n - 12) then s1.onTc (n - 12) (fun q => { q with want := on }) else s1

/-- LATCH_CLR; refused while classifying, and for SAFE while the Hayward holds the port. -/
def clearLatch (n : Nat) (s : State) : State :=
  s.onPort n (fun p =>
    if p.classifying || (p.latch = .safe && p.safe) then p
    else { p with latch := .none, vOpen := false, iOpen := false, classifying := false, post := [] })

/-- RAIL_HV is accepted only while the port is ON, HV_ALLOW is 1 and a sink is attached. -/
def railHigh (n : Nat) (s : State) : State :=
  if 12 ≤ n && pHvAllow s n && (s.port n).st = .on && (s.tc (n - 12)).st = .attached then
    s.onPort n (fun p => { p with railBusy := some (true, s.tick.now + 1 + pRailSettle s n) })
  else s

def railLow (n : Nat) (s : State) : State :=
  if 12 ≤ n then s.onPort n (fun p => { p with railBusy := some (false, s.tick.now + 1 + pRailSettle s n) }) else s

/-- Each bit of the command word acts, the lowest first. -/
def portCommand (n : Nat) (v : W) (s : State) : State :=
  let s1 := if v.bits 1 0 = 1 then requestPort true n s else if v.bits 1 0 = 2 then requestPort false n s else s
  let s2 := if v.bit 2 then s1.onPort n (fun p => { p with forceOff := true, reqs := p.reqs ++ [false] }) else s1
  let s3 := if v.bit 3 then s2.onPort n (fun p => { p with forceOff := false }) else s2
  let s4 := if v.bit 4 then clearLatch n s3 else s3
  let s5 := if v.bit 5 then railHigh n s4 else s4
  if v.bit 6 then railLow n s5 else s5

/-! ### Waking, shutdown and the requests of PWR_STATE (R114, R116, R119, R124, R138 to R140, R253, R584) -/

def wakeUp (s : State) : State :=
  if s.pwr.phase = .rest && !s.pwr.wake then s.onPwr (fun p => { p with wake := true, wakeAt := s.tick.now }) else s

/-- The plots of a joint step still to be applied leave its pause with their bits in the stuck masks, and its epoch
step, if it makes one, is not made (R124, R253). -/
def dropStep (s : State) : State :=
  match s.cfg.step with
  | none => s
  | some st =>
    (forEach st.plots (fun p => State.onPlot p (fun q => { q with fenced := false })) s).onCfg (fun c =>
      { c with
        stuck := st.plots.foldl (fun l p => insNat p l) c.stuck
        pend := c.pend.filter (fun p => !st.plots.contains p)
        targetEpoch := if st.makes then c.targetEpoch - 1 else c.targetEpoch
        step := none })

/-- A pending fence is dropped: its plots leave their pause. -/
def dropFence (s : State) : State :=
  if s.cfg.fPending || s.cfg.fPaused then
    endFence (s.onPlots (fun l => l.map (fun p => { p with fenced := false })))
  else s

/-- A furrow test under way is abandoned (R584). -/
def abandonTest (s : State) : State :=
  s.onField (fun x => if x.testAt.isSome then { x with testAt := none, testWait := true } else x)

/-- The commons memory test stops with ABORTED (R588a). -/
def stopMemtest (s : State) : State :=
  s.onField (fun x => if x.memRun then { x with memRun := false, memReq := false, memAborted := true } else { x with memReq := false })

/-- Step 1 of the controlled shutdown begins. -/
def startShutdown (s : State) : State :=
  let s1 := dropStep (dropFence (dropUpdates s))
  let s2 := stopMemtest (abandonTest (abortShadow s1))
  let s3 := s2.onCfg (fun c => { c with checking := false, commitAt := false, auto := false, pass := none })
  (s3.onStby (fun b => { b with incomplete := true, shutSteps := 0 })).onPwr (fun p =>
    { p with
      phase := .shutdown, shutStep := 1, shutAt := s.tick.now, stopNew := true, reqQuiesce := false, resume := false
      pendStandby := false, pendQuiesce := false, pendRun := false, runRecorded := false, wake := false })

def requestRun (s : State) : State :=
  match s.pwr.phase with
  | .run => if s.pwr.reqQuiesce then s.onPwr (fun p => { p with resume := true }) else s
  | .quiesce => s.onPwr (fun p => { p with resume := true })
  | .rest => (wakeUp s).onPwr (fun p => { p with noRest := true, pendQuiesce := false })
  | .shutdown => s.onPwr (fun p => { p with runRecorded := true })
  | _ => s

def requestQuiesce (s : State) : State :=
  match s.pwr.phase with
  | .run => s.onPwr (fun p => { p with reqQuiesce := true, resume := false })
  | .rest => (wakeUp s).onPwr (fun p => { p with pendQuiesce := true })
  | _ => s

def requestStandby (s : State) : State :=
  match s.pwr.phase with
  | .run | .quiesce | .startup | .seedFail => startShutdown s
  | .rest => (wakeUp s).onPwr (fun p => { p with pendStandby := true })
  | _ => s

/-- A write of PWR_STATE. -/
def writePwrState (v : W) (s : State) : State :=
  let s1 := (s.onPwr (fun p => { p with restEn := v.bit 7, noRest := p.noRest && !v.bit 7 })).onStby (fun b =>
    { b with restBlocked := b.restBlocked && !v.bit 8, lost := b.lost && !v.bit 9 })
  if v.bits 31 16 = Config.key then
    match v.bits 6 4 with
    | 1 => requestRun s1
    | 2 => requestQuiesce s1
    | 3 => requestStandby s1
    | _ => s1
  else s1

/-! ### The NVM controller (R211, R212) -/

/-- READ. -/
def nvmReadWord (a : Nat) (s : State) : State :=
  let w := s.seedWord a
  s.onNvm (fun n => { n with data := w.data, done := true, ecc1 := w.ecc = .single, ecc2 := w.ecc = .double })

/-- A write of NVM_CTL. -/
def writeNvmCtl (v : W) (s : State) : State :=
  let a := v.bits 13 0
  let cmd := v.bits 15 14
  let keyed := v.bits 31 16 = Config.key
  let s1 := s.onNvm (fun n =>
    { n with
      addr := BitVec.ofNat 14 a
      keyErr := n.keyErr || ((cmd = 1 || cmd = 2) && !keyed)
      refused := n.refused || (cmd ≠ 0 && n.op.isSome) })
  if s.nvm.op.isSome then s1
  else if cmd = 3 then nvmReadWord a s1
  else if cmd = 1 && keyed then
    if s.seedWord a = erasedWord then s1.onNvm (fun n => { n with op := some (.write, a, n.data) })
    else s1.onNvm (fun n => { n with done := true, err := true })
  else if cmd = 2 && keyed then s1.onNvm (fun n => { n with op := some (.erase, a, 0) })
  else s1

/-! ### The field fuse (R215, R603) -/

/-- A write of FUSE_CTL. CMD 0 and 3 to 15 name no command: ignored, without REFUSED. DESIGN CHOICE (log 75). -/
def writeFuseCtl (v : W) (s : State) : State :=
  let cmd := v.bits 3 0
  let key := v.bits 31 16
  let n := s.nvm
  if cmd = 0 || 2 < cmd then s
  else if key ≠ (if cmd = 1 then 0xC105 else 0xB10E) || (cmd = 2 && !n.fArmed) || n.fBusy || n.fBlown
      || !(s.pwr.phase = .startup || s.pwr.phase = .quiesce) then
    s.onNvm (fun n => { n with fRefused := true })
  else if cmd = 1 then s.onNvm (fun n => { n with fArmed := true, fArmedAt := s.tick.now })
  else s.onNvm (fun n => { n with fBusy := true })

/-! ### FALLOW_CTL (R213, R585, R586, R590) -/

/-- The plot carried by furrow f. -/
def plotOn (s : State) (f : Nat) : Nat := (s.field.map.getD f ⟨63, .fallow⟩).plot

/-- REFUSE_WHY of a forced test of Ff, 0 when it is taken. -/
def forceRefused (s : State) (f : Nat) : Nat :=
  if s.field.shadow.isSome then 1
  else if !(swapPend s).isEmpty || s.cfg.load.isSome || s.cfg.checking then 2
  else if s.field.failed.contains f || s.field.noSpare then 3
  else if (s.cfg.fPending || s.cfg.fPaused) && s.cfg.fenceList.contains (plotOn s f) then 4
  else if !(s.pwr.phase = .run || s.pwr.phase = .quiesce) then 5
  else 0

def refuseFallow (why : Nat) (s : State) : State := s.onField (fun x => { x with busy := true, refuseWhy := why })

def requestForce (f : Nat) (s : State) : State :=
  let why := forceRefused s f
  if why ≠ 0 then refuseFallow why s else s.onField (fun x => { x with forceReq := some f })

def requestMemtest (s : State) : State :=
  if s.pwr.phase ≠ .quiesce then refuseFallow 6 s
  else if s.field.memRun || s.field.memReq then refuseFallow 7 s
  else s.onField (fun x => { x with memReq := true })

/-- A write of FALLOW_CTL. -/
def writeFallowCtl (v : W) (s : State) : State :=
  let s1 := s.onField (fun x => { x with period := BitVec.ofNat 5 (v.bits 4 0), halt := v.bit 5 })
  let s2 := if v.bit 14 then requestForce (v.bits 13 8) s1 else s1
  if v.bit 15 then requestMemtest s2 else s2

/-! ### Opening, committing, fencing (R186, R202, R204, R228 to R235, R243 to R248) -/

def pathCode : Path → Nat
  | .tally => 1
  | .usb => 2

/-- The other path owns the open configuration. -/
def foreignOwner (s : State) (path : Path) : Bool := s.usb.owner ≠ 0 && s.usb.owner ≠ pathCode path

/-- A write of OPEN. -/
def openCfg (path : Path) (s : State) : State :=
  if s.cfg.isOpen || s.cfg.openWait || s.cfg.checking then s
  else
    let s1 := s.onUsb (fun u => { u with owner := pathCode path })
    if applying s then s1.onCfg (fun c => { c with openWait := true })
    else s1.onCfg (fun c =>
      { c with isOpen := true, window := 0, winRun := false, pass := c.pass.map (fun p => { p with clean := false }) })

/-- A keyed write of COMMIT by the owner. -/
def commitCfg (s : State) : State :=
  if s.cfg.isOpen && !s.cfg.checking then s.onCfg (fun c => { c with checking := true, commitAt := true }) else s

/-- A write of CFG_CTL: W1C bits, COMMIT first, then OPEN. -/
def writeCfgCtl (path : Path) (v : W) (s : State) : State :=
  let s1 := s.onCfg (fun c =>
    { c with
      commitOk := c.commitOk && !v.bit 9, commitFail := c.commitFail && !v.bit 10, expired := c.expired && !v.bit 11
      mismatch := c.mismatch && !v.bit 12, checkFail := c.checkFail && !v.bit 13 })
  let s2 := if v.bit 1 && v.bits 31 16 = Config.key then commitCfg s1 else s1
  if v.bit 0 then openCfg path s2 else s2

def refuseFence (why : Nat) (s : State) : State := s.onCfg (fun c => { c with fRefused := true, fReason := why })

/-- A fence that an accepted commit has still to apply. -/
def fenceDue (s : State) : Bool := (s.cfg.fPending || s.cfg.fPaused) && s.cfg.fAccepted

def addFence (p : Nat) (s : State) : State :=
  if 8 ≤ s.cfg.fenceList.length then refuseFence 2 s
  else if 62 < p then refuseFence 3 s
  else if fenceDue s then refuseFence 4 s
  else if s.cfg.fenceList.contains p then s
  else s.onCfg (fun c => { c with fenceList := c.fenceList ++ [p] })

/-- CMD 2; it cancels a fence that waits for a commit not yet accepted. -/
def clearFence (s : State) : State :=
  if fenceDue s then refuseFence 4 s
  else if s.cfg.fPending && s.cfg.fForCommit then endFence s
  else s.onCfg (fun c => { c with fenceList := [] })

def requestFence (s : State) : State :=
  let l := s.cfg.fenceList
  if l.isEmpty then refuseFence 2 s
  else if l.any (fun p => s.role p = rIDLE) then refuseFence 3 s
  else if s.cfg.fPending || s.cfg.fPaused || s.pwr.phase ≠ .run then refuseFence 4 s
  else if l.any (fun p => cSpateRes (s.plot p).wc p ≠ 0) then refuseFence 1 s
  else if l.any (fun p => (s.plot p).shadowed) then refuseFence 5 s
  else s.onCfg (fun c =>
    { c with fPending := true, fForCommit := c.isOpen, fAccepted := false, fPaused := false, fAt := s.tick.now })

/-- A write of FENCE. -/
def writeFence (v : W) (s : State) : State :=
  let s1 := s.onCfg (fun c => { c with fApplied := c.fApplied && !v.bit 9, fRefused := c.fRefused && !v.bit 10 })
  match v.bits 15 13 with
  | 1 => addFence (v.bits 5 0) s1
  | 2 => clearFence s1
  | 3 => requestFence s1
  | _ => s1

/-- A word of the configuration space takes a new value; the running pass may meet either one in this tick. -/
def writeCfgWord (a : Nat) (v : W) (s : State) : State :=
  s.onCfg (fun c =>
    { c with
      space := wrW c.space a (cfgStored a v)
      touched := if c.touched.any (fun e => e.1 = a) then c.touched else (a, rdW c.space a) :: c.touched })

/-! ### The Hayward's registers (R205, R208, R209, R566, R567, R569, R642) -/

/-- A write of HW_CTL whose RWL field may be written. -/
def writeHwCtl (v : W) (s : State) : State :=
  ((s.onCfg (fun c => { c with hwMode := if c.isOpen then v.bit 0 else c.hwMode })).onHay (fun h =>
    { h with
      queue := if v.bit 1 then [] else h.queue
      injArm := v.bit 2, fmin := BitVec.ofNat 8 (v.bits 15 8) })).onTally (fun t =>
    { t with holdMsg := t.holdMsg && !v.bit 1 })

/-- A masked write of FLT_PIN; HOLD 0 during MIN_RUN waits for its end. -/
def writeFltPin (v : W) (s : State) : State :=
  s.onHay (fun h =>
    let h1 := if v.bit 17 then { h with force := v.bit 1 } else h
    if !v.bit 16 then h1
    else if v.bit 0 then { h1 with hold := true, holdClr := false }
    else if h1.minRun then { h1 with holdClr := true }
    else { h1 with hold := false })

/-- A write of SAFE_CTL. CMD 2 outside the device safe state releases nothing and refuses nothing, severe sources or
not: DESIGN CHOICE (log 75). -/
def writeSafeCtl (v : W) (s : State) : State :=
  let s1 := s.onHay (fun h => { h with relRefused := h.relRefused && !v.bit 9 })
  if v.bits 31 16 ≠ Config.key then s1
  else match v.bits 3 0 with
    | 1 => enterSafe 1 0 s1
    | 2 =>
      if !s1.hay.safeDev then s1
      else if severeAny s1 then s1.onHay (fun h => { h with relRefused := true })
      else s1.onHay (fun h => { h with relReq := true })
    | _ => s1

end Sys2Proof.Machine
end

