-- ==== Sys2Proof/Machine/CadOps.lean ====
section
/-!
DEFINITION. The shared operations of the cadence streams (R442 to R459): a stream at a boundary, staging timed
READs, taking sense samples, and the packets.
-/

namespace Sys2Proof.Machine

/-! ### At a boundary (R442, R451, R453, R457, R459) -/

/-- The samples of the tick that ends which never got a READ are MISSED. -/
def countMissed (s : State) (c : Stream) : Stream :=
  let n := (c.ticks.filter (fun t => t.at_ + 1 = s.tick.now)).map (fun t => (t.samps.filter (fun x => x.st = .missed)).length)
  { c with missed := c.missed + BitVec.ofNat 16 n.sum }

/-- Ticks of a stream that an IN may carry now, when `u` ticks of the frame have passed (R448). -/
def offerable (s : State) (t : STick) : Bool :=
  if s.hub.speed = 1 then decide (t.at_ + s.tick.uframe.toNat + 9 ≤ s.tick.now) else decide (t.at_ + 2 ≤ s.tick.now)

/-- Discard whole ticks, the oldest first, while those to be carried exceed 64 samples or 15 ticks. -/
def trimTicks (s : State) : Nat → Stream → Stream
  | 0, c => c
  | fuel + 1, c =>
    let l := c.ticks.filter (offerable s)
    if decide (l.length ≤ 15) && decide ((l.map (fun t => t.samps.length)).sum ≤ 64) then c
    else match c.ticks with
      | [] => c
      | t :: ts => trimTicks s fuel { c with
          ticks := ts, lost := c.lost + BitVec.ofNat 16 t.samps.length
          gap := c.gap || decide (t.samps.length ≠ 0) }

/-- A stream at the boundary that opens a tick. -/
def cadBoundary (k : Nat) (s : State) : State :=
  match s.cadPlot k with
  | none => s.onCad k (fun c => { c.dropTicks with running := false, rate := 0, clamped := false, due := 0 })
  | some p =>
    if !s.hub.fConfigured then s.onCad k (fun c => { c.dropTicks with running := false, due := 0 })
    else
      let c := countMissed s (s.cad k)
      s.onCad k (fun _ => trimTicks s (c.ticks.length + 1)
        (fixTick s p (c.adjNew.getD c.adj) (if c.running then c.pos + c.rate else 0) c))

/-! ### Staging timed READs (R445) -/

/-- The operation of a timed READ. The controller holds it from its due cycle on, with no item of the CULV plot before
its issue. -/
def timedOp (p k : Nat) (cls : TClass) (addr id idx : Nat) : COp :=
  { mkOp false ⟨p, p, 0, cls, 0, false⟩ (reqHead (mkW [(8, 2, 1)])) 0 id with
    kind := .timed, addr := addr, count := 1, data := [BitVec.ofNat 32 idx], aux := k, fed := true }

def cadClass (m : Store W) (p : Nat) : TClass := if cadFlow m p then .flow else .spate

/-- A semaphore of another requester rejects the timed READs of plot Pp: those of Spate at once (R379; log 78). -/
def cadBarred (s : State) (p : Nat) : Bool :=
  let m := (s.plot p).wc
  cadClass m p = .spate && semBlocks s 0 p 0 (cadAddr m p) 1

/-- Stage the READ of one sample: under an entry, rejected where C1 takes none, or left where no ID is free. -/
def stageOne (p k idx : Nat) (s : State) : State :=
  let m := (s.plot p).wc
  if (s.cad k).stagedIds.any (fun x => x.1 = idx) then s
  else if !cadC1 s || cadBarred s p then s.onCad k (fun c => { c with stagedIds := c.stagedIds ++ [(idx, none)] })
  else match allocId s p (cLedgerCap m p) (cadClass m p) with
    | none => s
    | some id =>
      (openEntry id (mkEntry p .culvert (opLimit s 0) (timedOp p k (cadClass m p) (cadAddr m p) id idx)) s).onCad k (fun c =>
        { c with stagedIds := c.stagedIds ++ [(idx, some id)] })

/-- The CAD plot's item of tick j − 1 stages the READs of tick j. One that finds no ledger ID waits: the item is ready
again (R57). -/
def cadStage (p : Nat) (i : Item) (s : State) : State :=
  let m := (s.plot p).wc
  let k := cadStream m p
  let c := s.cad k
  if s.cadPlot k ≠ some p || !c.running || cadIdle s p k || cadSense m p || !accepting s || c.staged = s.tick.now + 1 then s
  else
    let pos := c.pos + c.rate
    let n := ceilPos (pos + (cadRateNow s p (c.adjNew.getD c.adj)).1) - ceilPos pos
    let l := (List.range n).map (ceilPos pos + ·)
    let s1 := forEach l (stageOne p k) s
    if l.all (fun idx => (s1.cad k).stagedIds.any (fun x => x.1 = idx)) then
      s1.onCad k (fun c => { c with staged := s.tick.now + 1 })
    else readyItem p i.kind i.ref s1

/-- The cycle at which sample `idx` of the running tick falls due (R443). -/
def dueCycle (c : Stream) (idx : Nat) : Nat :=
  if c.rate = 0 then 0 else ((65536 * idx - c.pos) * 30000 + c.rate - 1) / c.rate

/-! ### Sense samples (R447, R457, R474) -/

/-- Give the sense sample of the tick with a TICK_COUNT [11:0]. -/
def giveSense (k : Nat) (t12 v : BitVec 12) (bad : Bool) (s : State) : State :=
  s.onCad k (fun c =>
    if c.ticks.any (fun t => t.tick.setWidth 12 = t12 && t.samps.any (fun x => x.st = .waiting)) then
      { c with
        lastSense := v
        senseInv := if bad then c.senseInv + 1 else c.senseInv
        ticks := c.ticks.map (fun t => if t.tick.setWidth 12 = t12 then
          { t with samps := t.samps.map (fun x => if x.st = .waiting then ⟨v, if bad then .sense else .valid⟩ else x) } else t) }
    else { c with lastSense := v })

/-- Take every sample set that waits in sluice A of the stream's plot. -/
def takeSense (p k : Nat) : Nat → State → State
  | 0, s => s
  | fuel + 1, s =>
    match popSet p s with
    | none => s
    | some (ws, bad, s1) =>
      takeSense p k fuel (giveSense k (ws.getD 0 0) (ws.getD 1 0) ((ws.getD 2 0).getLsbD 0 || bad) s1)

/-- A dropped set: the sample before is repeated, invalid (R476, R477). -/
def dropSense (p : Nat) (s : State) : State :=
  let k := cadStream (s.plot p).wc p
  if s.cadPlot k = some p && cadSense (s.plot p).wc p then
    giveSense k ((s.tick.count - 1).setWidth 12) (s.cad k).lastSense true s
  else s

/-! ### Packets (R448 to R450) -/

/-- A sample as its packet carries it: READs that have not closed are LATE. -/
def settleSamp (x : Samp) : Samp := if x.st = .waiting then ⟨0, .late⟩ else x


/-- Samples packed as 12-bit words, padded to whole words. -/
def packSamples (l : List (BitVec 12)) : List W :=
  let n := ((3 * l.length + 1) / 2 + 3) / 4
  let v := l.foldr (fun x a => x.toNat + 4096 * a) 0
  (List.range n).map (fun i => BitVec.ofNat 32 (v / 2 ^ (32 * i)))

/-- The packet that carries the ticks `l`, none of them empty. -/
def streamPacket (k : Nat) (gap : Bool) (l : List STick) (rate idx : Nat) (tick : W) : List W :=
  let xs := l.flatMap STick.samps
  let bad := maskOf ((List.range xs.length).filter (fun i => (xs.getD i ⟨0, .valid⟩).st ≠ .valid))
  [mkW [(0, 3, k), (4, 4, flagsW [gap, l.any STick.hold, l.any STick.unlocked, l.any STick.clamped]), (8, 7, xs.length),
      (16, 4, l.length)],
    BitVec.ofNat 32 rate, BitVec.ofNat 32 idx, tick, BitVec.ofNat 32 bad, BitVec.ofNat 32 (bad / 2 ^ 32)]
    ++ packSamples (xs.map Samp.value)

/-- The packet of the ticks t and l, as it travels and as an IN carries it. -/
def ticksPacket (k : Nat) (gap : Bool) (t : STick) (l : List STick) : List W :=
  streamPacket k gap (t :: l) (((t :: l).getLast?).getD t).rate.toNat t.first.toNat t.tick

/-- The ticks that one packet carries, oldest first, while they fit into it: n samples and m ticks are left
(log 83). -/
def fitTicks : Nat → Nat → List STick → List STick
  | _, _, [] => []
  | _, 0, _ => []
  | n, m + 1, t :: l => if t.samps.length ≤ n then t :: fitTicks (n - t.samps.length) m l else []

/-- The ticks that have ended and whose packet is to be built. -/
def toBuild (s : State) (c : Stream) : List STick :=
  fitTicks 64 15 (c.ticks.filter (fun t => decide (t.at_ < s.tick.now) && !t.built))

/-- The ticks `l` of the stream are in a packet on its way to the FUNC plot. -/
def markBuilt (l : List STick) (c : Stream) : Stream :=
  { c with
    late := c.late + BitVec.ofNat 16 ((l.map (fun t => (t.samps.filter (fun x => x.st = .waiting)).length)).sum)
    ticks := c.ticks.map (fun t =>
      if l.any (fun x => x.at_ = t.at_) then { t with samps := t.samps.map settleSamp, built := true } else t) }

/-- The CAD plot Pp builds the packet of stream k for the FUNC plot: one packet of its sluice B, once that takes it
(R448, R449). -/
def buildPacket (p k : Nat) (s : State) : State :=
  match toBuild s (s.cad k), s.funcPlot (8 + k) with
  | t :: l, some q =>
    let i := 2 * p + 1
    let ws := ticksPacket k false { t with samps := t.samps.map settleSamp }
      (l.map (fun x => { x with samps := x.samps.map settleSamp }))
    let claim : SClaim := ⟨.flow, q, ws.length⟩
    if !(s.sluice i).claims.isEmpty || !claimFits s i claim then s
    else
      let s1 := (claimSluice i claim s).onCad k (markBuilt (t :: l))
      forEach ((List.range ws.length).zip ws) (fun x s =>
        writeSluice i ⟨x.2, 3, false, decide (x.1 + 1 = ws.length)⟩ s) s1
  | _, _ => s

/-- Ticks of stream k that came in a packet: with the FUNC plot from now on; discarded where a word of the packet is
poisoned (DESIGN CHOICE, log 77). -/
def landTicks (k : Nat) (first : W) (n : Nat) (bad : Bool) (s : State) : State :=
  let mine (t : STick) : Bool := t.built && !t.here && decide ((t.tick - first).toNat < n)
  s.onCad k (fun c =>
    if bad then
      { c with
        ticks := c.ticks.filter (fun t => !mine t)
        lost := c.lost + BitVec.ofNat 16 (((c.ticks.filter mine).map (fun t => t.samps.length)).sum)
        gap := c.gap || c.ticks.any (fun t => mine t && decide (t.samps.length ≠ 0)) }
    else { c with ticks := c.ticks.map (fun t => if mine t then { t with here := true } else t) })

/-- FUNC plot Pp takes the stream packets at the head of its sluice A (R436, R449). -/
def takeStreams (p : Nat) : Nat → State → State
  | 0, s => s
  | fuel + 1, s =>
    match headPacket (s.sluice (2 * p)) with
    | none => s
    | some k =>
      if s.role (k.words.headD noWord).peer ≠ rCAD || 63 ≤ (k.words.headD noWord).peer then s
      else
        let w (i : Nat) : W := (k.words.getD i noWord).data
        takeStreams p fuel (landTicks ((w 0).bits 2 0) (w 3) ((w 0).bits 19 16)
          (k.words.any (fun x => x.poison || x.parBad)) (takeWords (2 * p) k.words.length s))

/-- The ticks an IN carries now: the oldest ones that are with the FUNC plot and due to be offered. -/
def offered (s : State) (c : Stream) : List STick := c.ticks.takeWhile (fun t => t.here && offerable s t)

/-- An IN on the endpoint of stream k with its CAD plot (R450). TICK of a header-only packet is stated nowhere: a
free value (log 3). -/
def streamPoll (k : Nat) (s : State) : State :=
  let c := s.cad k
  match offered s c with
  | [] =>
    (answer .ack (streamPacket k c.gap [] c.rate (nextIndex c) (Config.noTick s.free)) [] s).took.onCad k (fun c =>
      { c with gap := false })
  | t :: l =>
    let n := ((t :: l).flatMap STick.samps).length
    (answer .ack (ticksPacket k c.gap t l) [] s).onCad k (fun c =>
      { c with
        ticks := c.ticks.drop (l.length + 1), gap := false
        packets := if n = 0 then c.packets else c.packets + 1 })

/-- An IN on stream endpoint 8 + k (R284, R450). -/
def streamEndpoint (k : Nat) (s : State) : State :=
  if !s.hub.fConfigured then answer .none [] [] s
  else if (s.ep (24 + k)).halted then stall s
  else if (s.cadPlot k).isNone then answer .ack [] [] s
  else if !epServes s (8 + k) then nak s
  else streamPoll k s

end Sys2Proof.Machine
end

