-- ==== Sys2Proof/Machine/Window.lean ====
section
/-!
DEFINITION. The register map as the two paths reach it (chapter 4): outcomes, writes of direct registers, the
indirect window with its gates and effects, tally frames and USB vendor requests.
-/

namespace Sys2Proof.Machine

/-! ### Outcomes (R153, R192 to R195, R200, R216) -/

/-- A counted tally frame ends with an outcome. -/
def finishTally (o : Outc) (s : State) : State :=
  s.onTally (fun t =>
    { t with
      last := o
      crcErr := t.crcErr || o = .crcBad, malformed := t.malformed || o = .malformed
      unmapped := t.unmapped || o = .unmapped, notReady := t.notReady || o = .notReady
      denied := t.denied || o = .denied, lockedWr := t.lockedWr || o = .locked
      poisonRd := t.poisonRd || o = .poison
      crcCnt := if o = .crcBad then satInc t.crcCnt 255 else t.crcCnt
      malCnt := if o = .malformed then satInc t.malCnt 255 else t.malCnt })

/-- A USB request ends with an outcome; `wrote` when it was a write that changed something. TSTAT keeps the outcomes of
tally frames alone, LOCKED too: DESIGN CHOICE (log 74). -/
def finishUsb (o : Outc) (wrote : Bool) (s : State) : State :=
  s.onUsb (fun u =>
    { u with
      last := o, denied := u.denied || o = .denied || o = .locked, wrote := u.wrote || wrote, active := false })

/-- An outcome that refuses a write. -/
def refusing (o : Outc) : Bool := o = .denied || o = .locked

/-! ### The standby domain (R104, R105, R146) -/

def writeBkp (k : Nat) (v : W) (s : State) : State :=
  s.onStby (fun b => if b.present then { b with bkp := wrW b.bkp k v, prev := (false, k, rdW b.bkp k) :: b.prev } else b)

def writeSram (k : Nat) (v : W) (s : State) : State :=
  s.onStby (fun b => if b.present then { b with sram := wrW b.sram k v, prev := (true, k, rdW b.sram k) :: b.prev } else b)

/-- A frame or request begins: the words of the one before are held by now (log 72). -/
def settleStby (s : State) : State := s.onStby (fun b => { b with prev := [] })

/-! ### Direct registers (R165 to R168, R185, R186, R233, R642) -/

def roRegister (idx : Nat) : Bool := [0x00, 0x01, 0x0A, 0x0B, 0x1A, 0x21].contains idx

/-- The outcome of a write of a mapped direct register other than IWD. -/
def regGate (s : State) (path : Path) (idx : Nat) (v : W) : Outc :=
  if roRegister idx then .denied
  else if path = .usb && (s.usb.mode ≠ 2 || idx = 0x34 || idx = 0x30) then .denied
  else if (idx = 0x08 || idx = 0x09 || idx = 0x0C) && foreignOwner s path then .denied
  else if idx = 0x09 then (if s.cfg.checking then .denied else if s.cfg.isOpen then .ok else .locked)
  else if idx = 0x0C && s.cfg.checking && (v.bits 15 13 = 1 || v.bits 15 13 = 2) then .denied
  else if idx = 0x18 && !s.cfg.isOpen && v.bit 0 ≠ s.cfg.hwMode then .locked
  else .ok

/-- W1C of TSTAT, with the counters behind two of its flags (R200). -/
def writeTstat (v : W) (t : Tally) : Tally :=
  { t with
    crcErr := t.crcErr && !v.bit 4, malformed := t.malformed && !v.bit 5, unmapped := t.unmapped && !v.bit 6
    notReady := t.notReady && !v.bit 7, denied := t.denied && !v.bit 8, lockedWr := t.lockedWr && !v.bit 9
    poisonRd := t.poisonRd && !v.bit 10
    crcCnt := if v.bit 4 then 0 else t.crcCnt, malCnt := if v.bit 5 then 0 else t.malCnt }

/-- W1C of RST_CAUSE (R141). -/
def writeRstCause (v : W) (b : Stby) : Stby :=
  { b with
    por := b.por && !v.bit 0, brownout := b.brownout && !v.bit 1, pin := b.pin && !v.bit 2
    soft := b.soft && !v.bit 3, wdog := b.wdog && !v.bit 4, shutdown := b.shutdown && !v.bit 5
    usbrst := b.usbrst && !v.bit 6, incomplete := b.incomplete && !v.bit 24 }

/-- What a write of a direct register that is accepted does; IWD apart. -/
def regEffect (path : Path) (idx : Nat) (v : W) (s : State) : State :=
  match idx with
  | 0x02 =>
    let s1 := if path = .tally then s.onTally (fun t => { t with lcrc := v.bit 0 }) else s
    if path = .usb && v.bits 31 16 = Config.softKey then s1.onPwr (fun p => { p with softUsb := true }) else s1
  | 0x03 => s.onTally (writeTstat v)
  | 0x04 => s.onWin path (fun w => { w with iwa := v.setWidth 24, rdy := false })
  | 0x06 => s.onWin path (fun w => { w with step := v.setWidth 8, dir := v.bit 8, page := v.bit 9 })
  | 0x08 => writeCfgCtl path v s
  | 0x09 => s.onCfg (fun c => { c with ref := v })
  | 0x0C => writeFence v s
  | 0x10 => s.onPwr (fun p => { p with blkReq := p.blkReq ||| BitVec.ofNat 10 (v.toNat &&& v.bits 31 16) })
  | 0x11 => s.onPwr (fun p => { p with blkRefused := p.blkRefused &&& ~~~(BitVec.ofNat 10 (v.bits 25 16)) })
  | 0x12 => s.onStby (writeRstCause v)
  | 0x14 => writePwrState v s
  | 0x18 => writeHwCtl v s
  | 0x19 => s.onHay (fun h => { h with qovf := h.qovf && !v.bit 3, selfPar := h.selfPar && !v.bit 4 })
  | 0x1B => writeFltPin v s
  | 0x1C => writeSafeCtl v s
  | 0x20 => s.onHay (fun h => { h with alertEn := v.setWidth 16 })
  | 0x24 => s.onTick (fun t =>
      { t with
        sofMiss := t.sofMiss && !v.bit 2, restep := t.restep && !v.bit 3, range := t.range && !v.bit 4
        ovrAny := t.ovrAny && !v.bit 5 })
  | 0x25 => s.onTick (fun t =>
      { t with
        freeTrim := BitVec.ofNat 8 (v.bits 23 16), toutMode := BitVec.ofNat 2 (v.bits 25 24), holdLast := v.bit 31 })
  | 0x28 => writeFallowCtl v s
  | 0x29 => s.onField (fun x =>
      { x with
        busy := x.busy && !v.bit 15, swapDone := x.swapDone && !v.bit 16, testFail := x.testFail && !v.bit 17
        memDone := x.memDone && !v.bit 20, memFail := x.memFail && !v.bit 21 })
  | 0x2C => writeNvmCtl v s
  | 0x2D => s.onNvm (fun n =>
      { n with
        done := n.done && !v.bit 1, err := n.err && !v.bit 2, keyErr := n.keyErr && !v.bit 3
        refused := n.refused && !v.bit 4, ecc1 := n.ecc1 && !v.bit 5, ecc2 := n.ecc2 && !v.bit 6 })
  | 0x2E => s.onNvm (fun n => { n with data := v })
  | 0x30 => writeFuseCtl v s
  | 0x31 => s.onNvm (fun n => { n with fFail := n.fFail && !v.bit 3, fRefused := n.fRefused && !v.bit 4 })
  | 0x34 => s.onUsb (fun u =>
      { u with mode := v.setWidth 2, denied := u.denied && !v.bit 9, wrote := u.wrote && !v.bit 10 })
  | n => if 0x38 ≤ n ∧ n ≤ 0x3F then writeBkp (n - 0x38 + (if (s.win path).page then 8 else 0)) v s else s

/-! ### Regions of the indirect space (R62, R174, R175, R177, R186, R233, R537) -/

/-- The region is marked "Open configuration only". -/
def openRegion (a : Nat) : Bool :=
  a < 0x8000 || (0x10000 ≤ a && a < 0x20000) || (0x20000 ≤ a && a < 0x21000 && a % 256 < 64)
    || (0x30000 ≤ a && a < 0x30C00 && a % 1024 < 512) || (0x50000 ≤ a && a < 0x51000) || (0x70000 ≤ a && a < 0x71000)

/-- A region of R174 holds the address. -/
def mapped (a : Nat) : Bool :=
  a < 0x8200 || (0x10000 ≤ a && a < 0x21000) || (0x30000 ≤ a && a < 0x31000) || (0x40000 ≤ a && a < 0x41000)
    || (0x50000 ≤ a && a < 0x51000) || (0x60000 ≤ a && a < 0x71000) || (0x80000 ≤ a && a < 0x80200)
    || (0x90000 ≤ a && a < 0x91000) || (0x100000 ≤ a && a < 0x110000)

def inCommons (a : Nat) : Bool := 0x100000 ≤ a && a < 0x110000

/-- The outcome of a write to an indirect address. -/
def indGate (s : State) (path : Path) (a : Nat) : Outc :=
  if path = .usb && s.usb.mode ≠ 2 then .denied
  else if !mapped a then .unmapped
  else if openRegion a then
    if foreignOwner s path then .denied
    else if s.cfg.checking then .denied
    else if s.cfg.isOpen then .ok else .locked
  else if 0x8000 ≤ a && a < 0x8200 then
    if 0x8100 ≤ a && a < 0x8100 + 4 * 63 && a % 4 = 3 then .ok else .denied
  else if (0x60000 ≤ a && a < 0x70000) || (0x90000 ≤ a && a < 0x91000) then .denied
  else if 0x40000 ≤ a && a < 0x41000 then
    if 8 ≤ a % 1024 && a % 1024 ≤ 16 && txBusy (s.tc ((a - 0x40000) / 1024)) then .denied else .ok
  else if inCommons a && s.field.memRun then .denied
  else .ok

/-- CLR of plot status word 3 (R64). -/
def clearPlotStatus (p : Nat) (s : State) : State :=
  s.onPlot p (fun q => { q with peakUsed := 0, peakSpate := 0, ovrCnt := 0, spxCnt := 0 })

/-- CLR of port word 196 (R300). -/
def clearUsbCounters (n : Nat) (s : State) : State :=
  s.onHubPort n (fun h => { h with resets := 0, errors := 0, retries := 0, npFail := 0, perMiss := 0 })

/-- A write to word k of mailbox t (R537, R538). -/
def writeMailbox (t k : Nat) (v : W) (s : State) : State :=
  if k = 1 then s.onTc t (fun q => { q with evt := q.evt &&& ~~~(v.setWidth 12) })
  else if k = 2 then pdCommand t (v.bits 3 0) (v.bits 9 8) s
  else if k = 8 then s.onTc t (fun q => { q with txDesc := v &&& 0x1F07 })
  else if 9 ≤ k && k ≤ 16 then s.onTc t (fun q => { q with txBytes := updNth q.txBytes (k - 9) (fun _ => v) })
  else s

/-- What an accepted write to an indirect address does. -/
def indEffect (a : Nat) (v : W) (s : State) : State :=
  if covered a then writeCfgWord a v s
  else if 0x8000 ≤ a && a < 0x8200 then (if v.bit 31 then clearPlotStatus ((a - 0x8100) / 4) s else s)
  else if 0x20000 ≤ a && a < 0x21000 then
    let n := (a - 0x20000) / 256
    match a % 256 with
    | 64 => portCommand n v s
    | 66 => s.onPort n (fun p => { p with evt := p.evt &&& ~~~(v.setWidth 8) })
    | 196 => if v.bit 31 then clearUsbCounters n s else s
    | _ => s
  else if 0x30000 ≤ a && a < 0x30C00 then
    let c := (a - 0x30000) / 1024
    if a % 1024 = 513 then s.onCulv c (fun k => { k with evt := k.evt &&& ~~~(v.setWidth 8) })
    else if a = 0x30209 then s.onTand (fun t => { t with evt := t.evt &&& ~~~(v.setWidth 8) })
    else s
  else if a = 0x30C40 then
    s.onCulvs (fun k => { k with latnEdge := k.latnEdge &&& ~~~(BitVec.ofNat 9 (v.bits 24 16)) })
  else if 0x40000 ≤ a && a < 0x41000 then writeMailbox ((a - 0x40000) / 1024) (a % 1024) v s
  else if 0x80000 ≤ a && a < 0x80200 then writeSram (a - 0x80000) v s
  else if inCommons a then
    let w := a - 0x100000
    let inj := armed s 0x63 w
    writeCommons w v false inj (if inj then disarm s else s)
  else s

/-- Check and effect of one write. -/
def indWrite (path : Path) (a : Nat) (v : W) (s : State) : Outc × State :=
  let o := indGate s path a
  (o, if o = .ok then indEffect a v s else s)

/-! ### The window (R169 to R173, R177, R195, R196) -/

/-- IWA after one access. -/
def stepWin (w : Win) : Win :=
  let d := w.step.setWidth 24
  { w with iwa := if w.dir then w.iwa - d else w.iwa + d, rdy := false }

/-- The word the window reads at an address, marking a commons word whose double error it finds. -/
def fetchWord (w : Win) (a : Nat) (s : State) : Rd × State :=
  let s1 := if inCommons a then readCommons (a - 0x100000) s else s
  let r := indRead s a
  match w.wbuf with
  | some (b, v) => if b = a then ({ r with data := v, poison := false }, s) else (r, s1)
  | none => (r, s1)

/-- Outcome, data and new state of a read of IWD at its capture point. -/
def iwdReadAt (path : Path) (s : State) : Outc × W × State :=
  let w := s.win path
  if s.pwr.phase = .rest then (.notReady, 0, s)
  else if inCommons w.iwa.toNat && s.field.memRun then (.denied, 0, s)
  else if !w.rdy then (.notReady, 0, s)
  else if !w.buf.mapped then (.unmapped, 0, s.onWin path stepWin)
  else (if w.buf.poison then .poison else .ok, w.buf.data, s.onWin path stepWin)

/-- A write of IWD: posted, or refused. A refused one changes nothing, so it does not start the buffer read anew:
DESIGN CHOICE (log 73). -/
def iwdWriteAt (path : Path) (v : W) (s : State) : Outc × State :=
  let w := s.win path
  if s.pwr.phase = .rest || w.wbuf.isSome then (.notReady, s)
  else
    let o := indGate s path w.iwa.toNat
    match o with
    | .ok => (.ok, s.onWin path (fun w => { stepWin w with wbuf := some (w.iwa.toNat, v) }))
    | .unmapped => (.unmapped, s.onWin path stepWin)
    | _ => (o, s)

/-- The window's buffer read completes. It is under way also after a reset, when IWA has not been written: DESIGN CHOICE
(log 73). -/
def bufferReady (path : Path) (s : State) : State :=
  let w := s.win path
  if w.rdy || !clocked s || s.pwr.phase = .rest then s
  else
    let r := fetchWord w w.iwa.toNat s
    r.2.onWin path (fun w => { w with rdy := true, buf := r.1 })

/-- The posted word reaches its address. -/
def drainWrite (path : Path) (s : State) : State :=
  match (s.win path).wbuf with
  | some (a, v) => indEffect a v (s.onWin path (fun w => { w with wbuf := none }))
  | none => s

/-! ### One register access -/

/-- A write of a direct register: outcome and new state. -/
def regWrite (path : Path) (idx : Nat) (v : W) (s : State) : Outc × State :=
  if (directValue s path idx).isNone then (.unmapped, s)
  else if idx = 0x05 then iwdWriteAt path v s
  else
    let o := regGate s path idx v
    (o, if o = .ok then regEffect path idx v s else s)

/-- A read of a direct register: outcome, data, and the state with its side effects (R159). -/
def regRead (path : Path) (idx : Nat) (s : State) : Outc × W × State :=
  match directValue s path idx with
  | none => (.unmapped, 0, s)
  | some w =>
    if idx = 0x05 then iwdReadAt path s
    else if idx = 0x1A then (.ok, w, s.onHay (fun h => { h with queue := h.queue.drop 1 }))
    else (.ok, w, s)

/-! ### The tally port (R119, R148 to R160, R188 to R197) -/

/-- TCS_N falls: a wake event in REST, and the end of any hold of an earlier frame. -/
def tallyFall (s : State) : State :=
  wakeUp (settleStby (s.onTally (fun t => { t with hold := false, holdMsg := false })))

/-- A soft reset written by the frame asserts at its end (R99). -/
def tallyReset (idx : Nat) (v : W) (o : Outc) (s : State) : State :=
  if idx = 0x02 && o = .ok && v.bits 31 16 = Config.softKey then deviceReset 4 false s else s

/-- The write of a well-formed frame, with its outcome. -/
def tallyWrite (idx : Nat) (v : W) (s : State) : State :=
  let r := regWrite .tally idx v (tallyFall s)
  tallyReset idx v r.1 (finishTally r.1 r.2)

/-- The read of a well-formed frame, with its outcome, and what the device sends. -/
def tallyRead (idx : Nat) (tdo : Outc → W → Tdo) (s : State) : State :=
  let r := regRead .tally idx (tallyFall s)
  (finishTally r.1 r.2.2).onTally (fun t => { t with tdo := tdo r.1 r.2.1 })

/-- The status byte of a frame (R151). -/
def statusByte (s : State) : Byte := BitVec.ofNat 8 (0x50 + s.tally.last.code)

/-- What a read sends: its data and trailer with LCRC, zeros with the complement where it fails (R156). -/
def readTdo (st cmd : Byte) (lcrc : Bool) (o : Outc) (d : W) : Tdo :=
  let good := o = .ok || o = .poison
  let d' := if good then d else 0
  let c := crc8 (cmd :: frameBytes d')
  ⟨st, d', if !lcrc then 0 else if good then c else ~~~c⟩

/-- The first n bits of a field of the wire, the rest not sent. -/
def sentBits {w : Nat} (n : Nat) (x : BitVec w) : BitVec w := x &&& ~~~(BitVec.allOnes w >>> n)

/-- What a read frame of n clocks has sent of what a full one sends (R149, R189). -/
def sentTdo (n : Nat) (x : Tdo) : Tdo :=
  ⟨sentBits n x.status, sentBits (n - 16) x.data, sentBits (n - 48) x.trailer⟩

/-- A frame that is counted without taking place. -/
def badFrame (o : Outc) (tdo : Tdo) (s : State) : State :=
  (finishTally o (tallyFall s)).onTally (fun t => { t with tdo := tdo })

/-- A write frame. -/
def writeFrame (cmd : Byte) (data : W) (crc : Byte) (clocks : Nat) (s : State) : State :=
  let st := statusByte s
  let lcrc := s.tally.lcrc
  if clocks ≠ (if lcrc then 48 else 40) then badFrame .malformed ⟨st, 0, 0⟩ s
  else if lcrc && crc ≠ crc8 (cmd :: frameBytes data) then badFrame .crcBad ⟨st, 0, 0⟩ s
  else tallyWrite (cmd.toNat % 128) data (s.onTally (fun t => { t with tdo := ⟨st, 0, 0⟩ }))

/-- A read frame; one of a wrong length has sent its bits so far without any side effect (R189). With a wrong command
CRC the data are zeros and the trailer is complemented, whatever the length (R156). -/
def readFrame (cmd turn : Byte) (clocks : Nat) (s : State) : State :=
  let st := statusByte s
  let lcrc := s.tally.lcrc
  let bad := lcrc && turn ≠ crc8 [cmd]
  let r := regRead .tally (cmd.toNat % 128) s
  let tdo := readTdo st cmd lcrc (if bad then .crcBad else r.1) (if bad then 0 else r.2.1)
  if clocks ≠ (if lcrc then 56 else 48) then badFrame .malformed (sentTdo clocks tdo) s
  else if bad then badFrame .crcBad tdo s
  else tallyRead (cmd.toNat % 128) (readTdo st cmd lcrc) s

/-! ### USB vendor requests (R178 to R182, R184, R638) -/

/-- The headgate answers its control pipe: connected, not suspended, domains released. -/
def usbUp (s : State) : Bool := s.hub.pullup && !s.hub.susp && clocked s

/-- The hub device is in the Address or Configured state. -/
def addressed (s : State) : Bool := s.hub.addr ≠ 0

/-- A request of R178: STALL outside the Address and Configured states and with USB_MODE 0 or 3; STALL with
outcome MALFORMED where it is malformed. -/
def vendor (good : Bool) (f : State → State) (s : State) : State :=
  if !usbUp s then s
  else if !addressed s then stall s
  else if s.usb.mode ≠ 1 && s.usb.mode ≠ 2 then stall (finishUsb .denied false s)
  else if !good then stall (finishUsb .malformed false s)
  else f (settleStby (s.onUsb (fun u => { u with active := true })))

/-- A register or a word has changed (R216 USB_WROTE); what the model notes of a word written again with its value is
neither. -/
def changed (s t : State) : Bool :=
  decide ({ t with
    stby := { t.stby with prev := s.stby.prev }, cfg := { t.cfg with touched := s.cfg.touched } } ≠ s)

/-- A write request from `s0` ends: STALL where it is refused. -/
def endWrite (s0 : State) (o : Outc) (s : State) : State :=
  if o = .notReady then nak s
  else if refusing o then stall (finishUsb o false s)
  else ack (finishUsb o (changed s0 s) s)

/-- WR_REG; a word posted to IWD has drained by the status stage (R180). -/
def usbWriteReg (idx : Nat) (v : W) (s : State) : State :=
  if idx = 0x05 then
    let r := iwdWriteAt .usb v s
    endWrite s r.1 (if r.1 = .ok then drainWrite .usb r.2 else r.2)
  else
    let r := regWrite .usb idx v s
    if r.1 = .unmapped then stall (finishUsb .unmapped false s) else endWrite s r.1 r.2

/-- RD_REG; a read of IWD waits for its buffer, one of HW_MSG for a tally read under way (R160, R180). -/
def usbReadReg (idx : Nat) (s : State) : State :=
  if (directValue s .usb idx).isNone then stall (finishUsb .unmapped false s)
  else if idx = 0x1A && s.tally.hold then nak s
  else
    let r := regRead .usb idx s
    if r.1 = .notReady then nak s
    else if refusing r.1 then stall (finishUsb r.1 false s)
    else answer .ack [r.2.1] [] (finishUsb r.1 false r.2.2)

/-- The words of a RD_IND, with the outcome so far; none where a word is refused: the whole request is then answered with
STALL and leaves IWA, DESIGN CHOICE where it is not the first word (log 73). -/
def readWords : Nat → Outc → State → Option (List W × Outc × State)
  | 0, o, s => some ([], o, s)
  | n + 1, o, s =>
    let w := s.uWin
    let a := w.iwa.toNat
    if inCommons a && s.field.memRun then none
    else
      let r := fetchWord w a s
      let o' := if !r.1.mapped then .unmapped else if r.1.poison && o = .ok then .poison else o
      match readWords n o' (r.2.onUWin stepWin) with
      | some (l, q, t) => some (r.1.data :: l, q, t)
      | none => none

/-- The words of a WR_IND up to the first that is refused, with the outcome. An unmapped word is ignored and is no
refused word: DESIGN CHOICE (log 73). -/
def writeWords : List W → Outc → State → Outc × State
  | [], o, s => (o, s)
  | v :: l, o, s =>
    let r := indWrite .usb s.uWin.iwa.toNat v s
    if refusing r.1 then (r.1, s)
    else writeWords l (if r.1 = .unmapped then .unmapped else o) (r.2.onUWin stepWin)

/-- The USB window's IWA is loaded. -/
def loadIwa (wValue wIndex : BitVec 16) (s : State) : State :=
  s.onUWin (fun w => { w with iwa := BitVec.ofNat 24 (wValue.toNat + 65536 * wIndex.toNat), rdy := false })

/-! ### Rows that name a register or an indirect word -/

/-- A write of a direct register through a path, in one command. -/
def rowWrite (path : Path) (idx : Nat) (v : W) (s : State) : State :=
  match path with
  | .tally => if clocked s then tallyWrite idx v s else s
  | .usb => vendor true (usbWriteReg idx v) s

/-- A write of an indirect word through a path, in one command, with its write buffer empty as it begins and as it ends
(R172, R173, R180); the window's IWA is left alone. -/
def rowInd (path : Path) (a : Nat) (v : W) (s : State) : State :=
  match path with
  | .tally =>
    if !clocked s then s
    else
      let s1 := tallyFall s
      if s1.pwr.phase = .rest || s1.tWin.wbuf.isSome then finishTally .notReady s1
      else
        let r := indWrite .tally a v s1
        finishTally r.1 r.2
  | .usb => vendor true (fun s =>
      if s.uWin.wbuf.isSome then nak s
      else
        let r := indWrite .usb a v s
        endWrite s r.1 r.2) s

/-- HW_CTL as a write that changes one field would spell it. -/
def hwCtlWord (s : State) (clear arm : Bool) : W :=
  mkW [(0, 3, flagsW [s.cfg.hwMode, clear, arm]), (8, 8, s.hay.fmin.toNat)]

end Sys2Proof.Machine
end

