-- ==== Sys2Proof/Machine/Hub.lean ====
section
/-!
DEFINITION. The commands of the headgate's control pipes and of the downstream ports' state machines (chapter 6).
Descriptor layouts, and the places of the status bits, are those of USB 2.0 (log 15).
-/

namespace Sys2Proof.Machine

/-! ### Descriptors (R259, R260, R263, R296, R297) -/

def lo8 (n : Nat) : Byte := BitVec.ofNat 8 n
def le16 (n : Nat) : List Byte := [lo8 n, lo8 (n / 256)]

def optW (s : State) (k : Nat) : W := rdW s.nvm.opt k
def optMtt (s : State) : Bool := (optW s 17).bit 2

/-- The bytes of the string area that starts at option word `k`; an area whose byte 1 is not 3, or of length 0, is
absent. -/
def stringArea (s : State) (k : Nat) : Option (List Byte) :=
  let bs := (List.range 32).flatMap (fun i => (optW s (k + i)).bytes)
  let len := (bs.headD 0).toNat
  if bs.getD 1 0 = 3 && len ≠ 0 then some (bs.take len) else none

/-- The index of a string, 0 where it is absent. -/
def stringIndex (s : State) (i : Nat) : Byte := if (stringArea s (32 * i)).isSome then lo8 i else 0

/-- bDeviceProtocol of the hub at a speed. -/
def hubProtocol (s : State) (hs : Bool) : Byte := if !hs then 0 else if optMtt s then 2 else 1

def deviceDescriptor (s : State) (func hs : Bool) : List Byte :=
  [18, 1, 0x00, 0x02, if func then 0 else 9, 0, if func then 0 else hubProtocol s hs, 64]
    ++ le16 ((optW s 2).bits 15 0)
    ++ le16 (if func then (optW s 18).bits 15 0 else (optW s 2).bits 31 16)
    ++ le16 (if func then (optW s 18).bits 31 16 else (optW s 16).bits 15 0)
    ++ [stringIndex s 1, stringIndex s 2, stringIndex s 3, 1]

def qualifierDescriptor (s : State) (func hs : Bool) : List Byte :=
  [10, 6, 0x00, 0x02, if func then 0 else 9, 0, if func then 0 else hubProtocol s hs, 64, 1, 0]

def epDescriptor (addr attr maxp ival : Nat) : List Byte := [7, 5, lo8 addr, lo8 attr] ++ le16 maxp ++ [lo8 ival]

def hubInterface (alt proto : Nat) (hs : Bool) : List Byte :=
  [9, 4, 0, lo8 alt, 1, 9, 0, lo8 proto, 0] ++ epDescriptor 0x81 3 3 (if hs then 12 else 255)

/-- The rack function's endpoints (R283). -/
def funcEndpoints (hs : Bool) : List Byte :=
  let bulk := if hs then 512 else 64
  epDescriptor 0x01 2 bulk 0 ++ epDescriptor 0x81 2 bulk 0 ++ epDescriptor 0x02 3 64 1 ++ epDescriptor 0x82 3 64 1
    ++ epDescriptor 0x83 3 64 (if hs then 4 else 1) ++ epDescriptor 0x04 2 bulk 0 ++ epDescriptor 0x84 2 bulk 0
    ++ (List.range 8).flatMap (fun k => epDescriptor (0x88 + k) 1 (if hs then 1024 else 1023) 1)

/-- A configuration descriptor of `kind` 2, or 7 for the other speed, at a speed. -/
def configDescriptor (s : State) (func hs : Bool) (kind : Nat) : List Byte :=
  let body := if func then [9, 4, 0, 0, 15, 0xFF, 0, 0, 0] ++ funcEndpoints hs
    else hubInterface 0 1 hs ++ (if hs && optMtt s then hubInterface 1 2 hs else [])
  let wake := (optW s 17).bit (if func then 4 else 3)
  [9, lo8 kind] ++ le16 (9 + body.length) ++ [1, 1, 0, if wake then 0xE0 else 0xC0, 0] ++ body

/-- What GET_DESCRIPTOR returns; none is answered with STALL. -/
def descriptor (s : State) (func : Bool) (kind index : Nat) : Option (List Byte) :=
  let hs := s.hub.speed = 2
  match kind, index with
  | 1, _ => some (deviceDescriptor s func hs)
  | 2, 0 => some (configDescriptor s func hs 2)
  | 3, 0 => some [4, 3, 0x09, 0x04]
  | 3, i => if i ≤ 3 then stringArea s (32 * i) else none
  | 6, _ => if hs then some (qualifierDescriptor s func false) else none
  | 7, 0 => some (configDescriptor s func (!hs) 7)
  | _, _ => none

def hubDescriptor (s : State) : List Byte :=
  [13, 0x29, 17] ++ le16 (0x0D + 32 * (optW s 17).bits 1 0)
    ++ [lo8 ((optW s 16).bits 23 16), lo8 ((optW s 16).bits 31 24)]
    ++ [lo8 (2 * (optW s 19).bits 7 1), lo8 ((optW s 19).bits 15 8), lo8 ((optW s 19).bits 16 16 + 2), 0xFF, 0xFF, 0xFF]

/-! ### Control requests -/

/-- A request on the hub's control pipe. -/
def hubRequest (f : State → State) (s : State) : State := onlyIf (usbUp s) f s

/-- Port 17 passes traffic to the rack function. -/
def funcUp (s : State) : Bool := usbUp s && (s.hubPort 16).st = .enabled

/-- A request on the rack function's control pipe, served by the lowest-numbered FUNC plot (R284, R568). -/
def funcRequest (f : State → State) (s : State) : State :=
  onlyIf (funcUp s) (if optRuns s (s.funcPlot 0) then f else nak) s

def onPipe (func : Bool) (f : State → State) (s : State) : State := if func then funcRequest f s else hubRequest f s

/-- Hand an action to a port's warden for the next boundary, and acknowledge (R258). -/
def portRequest (n : Nat) (a : PAction) (s : State) : State :=
  ack (s.onHubPort n (fun h => { h with act := h.act ++ [a] }))

/-- GET_HUB_STATUS: local power good, no over-current, no change. -/
def execGetHubStatus (s : State) : Res State := goOn (hubRequest (answer .ack [] [0, 0, 0, 0]) s)

/-- CLEAR_HUB_FEATURE: C_HUB_LOCAL_POWER and C_HUB_OVER_CURRENT have no effect. -/
def execClearHubFeature (feature : BitVec 16) (s : State) : Res State :=
  goOn (hubRequest (if feature.toNat ≤ 1 then ack else stall) s)

/-- GET_HUB_DESCRIPTOR. -/
def execGetHubDescriptor (s : State) : Res State := goOn (hubRequest (fun s => answer .ack [] (hubDescriptor s) s) s)

/-- SET_HUB_DESCRIPTOR. -/
def execSetHubDescriptor (s : State) : Res State := goOn (hubRequest stall s)

/-- GET_PORT_STATUS. -/
def execGetPortStatus (port : HubPortId) (s : State) : Res State :=
  goOn (hubRequest (fun s => answer .ack [] (le16 (portStatus s port.val) ++ le16 (portChange s port.val)) s) s)

/-- SET_PORT_FEATURE_POWER (R268, R269, R467): acknowledged without effect on port 17 and while a latch holds the
port off. -/
def execSetPortFeaturePower (port : HubPortId) (s : State) : Res State :=
  let n := port.val
  goOn (hubRequest (fun s =>
    if n = 16 || latched s n then ack s
    else portRequest n .powerOn (requestPort true n (s.onPort n (fun p => { p with hostOn := true })))) s)

/-- SET_PORT_FEATURE_RESET. -/
def execSetPortFeatureReset (port : HubPortId) (s : State) : Res State :=
  goOn (hubRequest (portRequest port.val .reset) s)

/-- SET_PORT_FEATURE_SUSPEND. -/
def execSetPortFeatureSuspend (port : HubPortId) (s : State) : Res State :=
  goOn (hubRequest (portRequest port.val .suspend) s)

/-- SET_PORT_FEATURE_TEST: the five modes of USB 2.0 on ports 1 to 16. -/
def execSetPortFeatureTest (port : HubPortId) (mode : Byte) (s : State) : Res State :=
  goOn (hubRequest (if port.val = 16 || mode = 0 || decide (5 < mode.toNat) then stall
    else portRequest port.val (.test mode.toNat)) s)

/-- SET_PORT_FEATURE_INDICATOR. -/
def execSetPortFeatureIndicator (_port : HubPortId) (s : State) : Res State := goOn (hubRequest stall s)

/-- CLEAR_PORT_FEATURE_ENABLE. -/
def execClearPortFeatureEnable (port : HubPortId) (s : State) : Res State :=
  goOn (hubRequest (portRequest port.val .disable) s)

/-- CLEAR_PORT_FEATURE_POWER: an OFF request to the warden too (R467). -/
def execClearPortFeaturePower (port : HubPortId) (s : State) : Res State :=
  let n := port.val
  goOn (hubRequest (fun s =>
    if n = 16 then ack s
    else portRequest n .powerOff (requestPort false n (s.onPort n (fun p => { p with hostOn := false })))) s)

/-- CLEAR_PORT_FEATURE_SUSPEND. -/
def execClearPortFeatureSuspend (port : HubPortId) (s : State) : Res State :=
  goOn (hubRequest (portRequest port.val .resume) s)

/-- C_PORT_OVER_CURRENT cleared by the host clears the latches of over-current with AUTO_CLR (R491). -/
def autoClear (n : Nat) (s : State) : State :=
  if n < 16 && pAutoClr s n && ((s.port n).latch = .ocp || (s.port n).latch = .slowOc) then clearLatch n s else s

/-- CLEAR_PORT_CHANGE. -/
def execClearPortChange (port : HubPortId) (c : PortChange) (s : State) : Res State :=
  let n := port.val
  goOn (hubRequest (fun s =>
    let s1 := s.onHubPort n (fun h =>
      match c with
      | .connection => { h with cConn := false }
      | .enable => { h with cEn := false }
      | .suspend => { h with cSusp := false }
      | .overCurrent => { h with cOc := false }
      | .reset => { h with cRst := false })
    ack (if c = .overCurrent then autoClear n s1 else s1)) s)

/-- GET_DESCRIPTOR. -/
def execGetDescriptor (func : Bool) (kind index : Byte) (s : State) : Res State :=
  goOn (onPipe func (fun s =>
    match descriptor s func kind.toNat index.toNat with
    | some bs => answer .ack [] bs s
    | none => stall s) s)

/-- SET_ADDRESS. -/
def execSetAddress (func : Bool) (addr : BitVec 7) (s : State) : Res State :=
  goOn (onPipe func (fun s => ack (s.onHub (fun h => if func then { h with fAddr := addr } else { h with addr := addr }))) s)

/-- SET_FEATURE(DEVICE_REMOTE_WAKEUP). -/
def execSetFeature (func : Bool) (s : State) : Res State :=
  goOn (onPipe func (fun s => ack (s.onHub (fun h => if func then { h with fRwake := true } else { h with rwake := true }))) s)

/-- CLEAR_FEATURE: ENDPOINT_HALT of an endpoint, or DEVICE_REMOTE_WAKEUP. -/
def execClearFeature (func : Bool) (halt : Option (Fin 16)) (s : State) : Res State :=
  goOn (onPipe func (fun s =>
    match halt with
    | some e =>
      ack (if func then (s.onEp e.val (fun q => { q with halted := false })).onEp (e.val + 16)
        (fun q => { q with halted := false }) else s)
    | none => ack (s.onHub (fun h => if func then { h with fRwake := false } else { h with rwake := false }))) s)

/-- SET_INTERFACE (R259, R271): alt 1 only where it is offered. -/
def execSetInterface (alt : Byte) (s : State) : Res State :=
  goOn (hubRequest (fun s =>
    if alt = 0 then ack (s.onHub (fun h => { h with mtt := false }))
    else if alt = 1 && optMtt s && s.hub.speed = 2 then ack (s.onHub (fun h => { h with mtt := true }))
    else stall s) s)

/-- SET_CONFIGURATION (R268, R293): port 17 reads connected from the hub's configuration on. -/
def execSetConfiguration (func : Bool) (v : Byte) (s : State) : Res State :=
  goOn (onPipe func (fun s =>
    if 1 < v.toNat || (if func then s.hub.fAddr = 0 else s.hub.addr = 0) then stall s
    else if func then
      ack (if v = 0 then (dropEndpoints s).onHub (fun h => { h with fConfigured := false })
        else s.onHub (fun h => { h with fConfigured := true }))
    else
      ack (s.onHub (fun h =>
        { h with
          configured := v = 1
          ports := updNth h.ports 16 (fun p =>
            if v = 1 && p.st = .disconnected then { p with st := .disabled, cConn := true } else p) }))) s)

/-! ### Port state machine (R258, R265 to R268, R281, R285, R287) -/

/-- The warden of a port runs its state machine; port 17 is served by the hub controller. -/
def portRuns (s : State) (n : Nat) : Bool := if n = 16 then clocked s else optRuns s (s.warden n)

def setPort17Susp (n : Nat) (on : Bool) (s : State) : State :=
  if n = 16 then s.onHub (fun h => { h with fSusp := on }) else s

def startResume (n : Nat) (s : State) : State :=
  s.onHubPort n (fun h => { h with st := .resuming, deadline := s.tick.now + 168, devResume := false })

/-- One action on the port's present state; a request the table does not name there has no effect (R266). -/
def portAction (n : Nat) (a : PAction) (s : State) : State :=
  let h := s.hubPort n
  match a with
  | .powerOn =>
    if h.st = .poweredOff && (s.port n).hostOn && (s.port n).st = .on then
      s.onHubPort n (fun h => { h with st := .disconnected })
    else s
  | .powerOff => hubOff false n s
  | .reset =>
    if h.st = .disabled || h.st = .enabled || h.st = .suspended || h.st = .error then
      setPort17Susp n false (s.onHubPort n (fun h =>
        { h with st := .reset, deadline := s.tick.now + 96, devResume := false, resets := satInc h.resets 65535 }))
    else s
  | .suspend =>
    if h.st = .enabled then setPort17Susp n true (s.onHubPort n (fun h => { h with st := .suspended })) else s
  | .resume => if h.st = .suspended then startResume n s else s
  | .disable => if h.st = .enabled then s.onHubPort n (fun h => { h with st := .disabled }) else s
  | .test m => if h.st = .poweredOff then s else s.onHubPort n (fun h => { h with test := m })

/-- A connect and a disconnect, as the warden takes them (R265, R286). -/
def connectPort (n : Nat) (speed : Speed) (s : State) : State :=
  s.onHubPort n (fun h => { h with st := .disabled, speed := speed, cConn := true })
def disconnectPort (n : Nat) (s : State) : State :=
  dropPortSplits n (s.onHubPort n (fun h =>
    { h with st := .disconnected, speed := .none, cConn := true, deadline := 0, devResume := false }))

/-- A state from which a disconnect is detected (R265). -/
def connectedSt (h : HubPort) : Bool := h.st ≠ .poweredOff && h.st ≠ .disconnected

/-- One change that waited while the warden did not run (R281). -/
def takeDetect (n : Nat) (d : Option Speed) (s : State) : State :=
  match d with
  | some v => if (s.hubPort n).st = .disconnected then connectPort n v s else s
  | none => if connectedSt (s.hubPort n) then disconnectPort n s else s

/-- PORT_ACTION_START: the changes seen while the warden did not run, the actions requested since the last boundary, in
order, and a device's resume. -/
def execPortActionStart (port : HubPortId) (s : State) : Res State :=
  let n := port.val
  goOn (onlyIf (portRuns s n) (fun s =>
    let s0 := forEach (s.hubPort n).detect (takeDetect n) (s.onHubPort n (fun h => { h with detect := [] }))
    let s1 := forEach (s0.hubPort n).act (portAction n) (s0.onHubPort n (fun h => { h with act := [] }))
    if (s1.hubPort n).devResume && (s1.hubPort n).st = .suspended then startResume n s1
    else s1.onHubPort n (fun h => { h with devResume := false })) s)

/-- A hub wake condition while the headgate is suspended; a change only with DEVICE_REMOTE_WAKEUP of the hub. -/
def hubWakes (change : Bool) (s : State) : State :=
  if s.hub.susp && (!change || s.hub.rwake) then wakeUp (s.onHub (fun h => { h with wakeCond := true })) else s

/-- A device is on the port, as the detectors last saw it. -/
def portSees (s : State) (n : Nat) : Bool :=
  match (s.hubPort n).detect.getLast? with
  | some d => d.isSome
  | none => connectedSt (s.hubPort n)

/-- The warden takes a change at once when it runs; in REST, or while its plot is held, the change waits, and in REST it
wakes the device (R281). -/
def sawChange (n : Nat) (d : Option Speed) (s : State) : State :=
  hubWakes true (if portRuns s n && (s.hubPort n).detect.isEmpty then takeDetect n d s
    else s.onHubPort n (fun h => { h with detect := h.detect ++ [d] }))

/-- A block in reset watches no port: block 1 is the PHYs of DP1 to DP8, block 2 those of DP9 to DP16 (R132, R133). -/
def phyHeld (s : State) (n : Nat) : Bool := s.pwr.blkHeld.getLsbD (if n < 8 then 1 else 2)

/-- CONNECT_DETECT (R265, R267). -/
def execConnectDetect (port : PortId) (speed : Speed) (s : State) : Res State :=
  let n := port.val
  goOn (onlyIf ((s.hubPort n).st ≠ .poweredOff && !portSees s n && !phyHeld s n) (sawChange n (some speed)) s)

/-- DISCONNECT_DETECT (R265, R286). -/
def execDisconnectDetect (port : PortId) (s : State) : Res State :=
  let n := port.val
  goOn (onlyIf ((s.hubPort n).st ≠ .poweredOff && portSees s n) (sawChange n none) s)

/-- RESET_DRIVE_END: Enabled, or Disabled where no TT serves the device's speed (R285). -/
def execResetDriveEnd (port : HubPortId) (speed : Speed) (s : State) : Res State :=
  let n := port.val
  let h := s.hubPort n
  goOn (onlyIf (h.st = .reset && decide (h.deadline ≤ s.tick.now) && portRuns s n && (speed ≠ .none || n = 16)) (fun s =>
    let sp := if n = 16 then (if s.hub.speed = 2 then .high else .full)
      else if s.hub.speed = 2 then speed else if speed = .high then .full else speed
    let noTt := n ≠ 16 && s.hub.speed = 2 && sp ≠ .high && (s.ttPlot n).isNone
    let s1 := s.onHubPort n (fun h =>
      { h with st := if noTt then .disabled else .enabled, speed := sp, cRst := true, deadline := 0 })
    if noTt then raisePort n 0x16 s1 else s1) s)

/-- DEVICE_RESUME: recognised; the port enters Resuming at the next boundary (R267, R268, R281). The rack function
signals on port 17 where the host has enabled its remote wake. -/
def execDeviceResume (port : HubPortId) (s : State) : Res State :=
  goOn (onlyIf ((s.hubPort port.val).st = .suspended && (port.val ≠ 16 || s.hub.fRwake)) (fun s =>
    hubWakes false (s.onHubPort port.val (fun h => { h with devResume := true }))) s)

/-- RESUME_DRIVE_END. -/
def execResumeDriveEnd (port : HubPortId) (s : State) : Res State :=
  let n := port.val
  let h := s.hubPort n
  goOn (onlyIf (h.st = .resuming && decide (h.deadline ≤ s.tick.now) && portRuns s n) (fun s =>
    setPort17Susp n false (s.onHubPort n (fun h => { h with st := .enabled, cSusp := true, deadline := 0 }))) s)

/-- PORT_ERROR (R287). -/
def execPortError (port : PortId) (s : State) : Res State :=
  let n := port.val
  goOn (onlyIf ((s.hubPort n).st = .enabled) (fun s =>
    raisePort n 0x17 (dropPortSplits n (s.onHubPort n (fun h =>
      { h with st := .error, cEn := true, errors := satInc h.errors 65535 })))) s)

/-- PORT17_RESET (R295): while port 17 is in Reset. -/
def execPort17Reset (s : State) : Res State := goOn (onlyIf ((s.hubPort 16).st = .reset) resetFunction s)

/-! ### Suspend, resume, remote wake (R280 to R282) -/

/-- A change that waits for the host, or a resume under way, when the headgate suspends. -/
def changeWaits (s : State) : Bool :=
  s.hub.ports.any (fun h => h.devResume || h.st = .resuming || (s.hub.rwake && (h.cConn || h.cOc || h.cSusp)))

/-- HEADGATE_SUSPEND. -/
def execHeadgateSuspend (s : State) : Res State :=
  goOn (onlyIf (s.hub.pullup && !s.hub.susp) (fun s => s.onHub (fun h =>
    { h with susp := true, susAt := s.tick.now, suspends := satInc h.suspends 65535, wakeCond := changeWaits s })) s)

/-- HEADGATE_RESUME: the suspended state ends; in REST only once a wake event has come. A device that a request kept
out of REST may enter it at the next suspend (R140). -/
def execHeadgateResume (s : State) : Res State :=
  goOn (onlyIf (s.hub.susp && (s.pwr.phase ≠ .rest || s.pwr.wake)) (fun s =>
    (s.onHub (fun h => { h with susp := false, driveK := false, wakeCond := false })).onPwr (fun p =>
      { p with noRest := false })) s)

/-- REMOTE_WAKE: no earlier than 5.0 ms, 40 ticks, after the suspend. -/
def execRemoteWake (s : State) : Res State :=
  goOn (onlyIf (s.hub.susp && s.hub.rwake && s.hub.wakeCond && decide (s.hub.susAt + 40 ≤ s.tick.now)) (State.onHub (fun h =>
    { h with driveK := true, driveAt := s.tick.now, wakeCond := false })) s)

end Sys2Proof.Machine
end

