-- ==== Sys2Proof/Machine/Cadence.lean ====
section
/-! DEFINITION. The commands of the cadence streams (chapter 10). -/

namespace Sys2Proof.Machine

/-- The tick of a stream that is running now. -/
def tickNow (s : State) (c : Stream) : Option STick := c.ticks.find? (fun t => t.at_ = s.tick.now)

/-- Sample `idx` of the running tick takes a state. -/
def markSamp (idx : W) (x : SampSt) (s : State) (c : Stream) : Stream :=
  { c with
    failed := if x = .failed then c.failed + 1 else c.failed
    ticks := c.ticks.map (fun t => if t.at_ = s.tick.now then
      { t with samps := updNth t.samps (idx - t.first).toNat (fun y => if y.st = .missed then ⟨0, x⟩ else y) } else t) }

/-- TIMED_READ_DUE (R443, R445, R457): a staged READ enters the C1 queue at its due cycle; one rejected or closed
before it is FAILED; a sample not staged stays MISSED. -/
def execTimedReadDue (st : StreamId) (index : W) (s : State) : Res State :=
  let k := st.val
  let c := s.cad k
  match s.cadPlot k, tickNow s c with
  | some p, some t =>
    let m := (s.plot p).wc
    let i := (index - t.first).toNat
    goOn (onlyIf (decide (i < t.samps.length) && !cadSense m p) (fun s =>
      let s1 := s.onCad k (fun c => { c with due := i + 1 })
      let idx := ceilPos c.pos + i
      match c.stagedIds.find? (fun x => x.1 = idx) with
      | none => s1
      | some x =>
        let s2 := s1.onCad k (fun c => { c with stagedIds := c.stagedIds.erase x })
        match x.2 with
        | none => s2.onCad k (markSamp index .failed s)
        | some id =>
          if !(s.entry id).opn then s2.onCad k (markSamp index .failed s)
          else if cadBarred s p then (closeLone 0 id .cancelled s2).onCad k (markSamp index .failed s)
          else
            let o := { timedOp p k (cadClass m p) (cadAddr m p) id idx with
              data := [index], dueTick := s.tick.now, dueCyc := dueCycle c idx }
            (s2.onCad k (markSamp index .waiting s)).onCulv 0 (fun q => { q with ops := q.ops ++ [o] })) s)
  | _, _ => goOn s

/-- CADENCE_PACKET_BUILD: a Flow item of the CAD plot. Ticks that sluice B has no room for wait for the next. -/
def execCadencePacketBuild (st : StreamId) (s : State) : Res State :=
  let k := st.val
  match s.cadPlot k with
  | none => goOn s
  | some p => goOn (onlyIf (plotRuns s p) (fun s =>
      let s1 := if cadSense (s.plot p).wc p then takeSense p k ((s.sluice (2 * p)).pkts.length) s else s
      buildPacket p k s1) s)

/-- STREAM_IN. -/
def execStreamIn (st : StreamId) (s : State) : Res State := goOn (onlyIf (funcUp s) (streamEndpoint st.val) s)

/-- The stream a request names, when it has a CAD plot. -/
def streamOf (s : State) (wValue : BitVec 16) : Option Nat :=
  if wValue.toNat < 8 && (s.cadPlot wValue.toNat).isSome then some wValue.toNat else none

/-- SET_ADJ. -/
def execSetAdj (wValue : BitVec 16) (adj : W) (s : State) : Res State :=
  goOn (funcRequest (fun s => match streamOf s wValue with
    | some k => ack (s.onCad k (fun c => { c with adjNew := some adj }))
    | none => stall s) s)

/-- GET_CADENCE. -/
def execGetCadence (wValue : BitVec 16) (s : State) : Res State :=
  goOn (funcRequest (fun s => match streamOf s wValue with
    | some k => answer .ack [BitVec.ofNat 32 (s.cad k).rate, adjNow s k, BitVec.ofNat 32 (nextIndex (s.cad k))] [] s
    | none => stall s) s)

end Sys2Proof.Machine
end

