-- ==== Sys2Proof/Machine/Checks.lean ====
section
/-!
DEFINITION. The image header checks (R222) and the load checks 0x2 to 0xF on the configuration space (R19, R236,
R398, R434, R575, R640). Each check lists the plots its failing conditions involve, 63 for a condition that
involves none; it fails when the list is not empty.
-/

namespace Sys2Proof.Machine

def allPlots : List Nat := List.range 63

/-- The plots of a role in the configuration checked. -/
def plotsIn (m : Store W) (r : Nat) : List Nat := allPlots.filter (fun p => cRole m p = r)

/-- The plots that are not IDLE: checks 0x6 to 0xB pass over the others. -/
def workPlots (m : Store W) : List Nat := allPlots.filter (fun p => cRole m p ≠ rIDLE)

/-! ### 0x3 ROLE (R19) -/

/-- Role, fewest and most plots. -/
def roleLimits : List (Nat × Nat × Nat) :=
  [(rTT, 1, 16), (rCULV, 0, 3), (rWARD, 1, 16), (rCAD, 0, 8), (rFUNC, 1, 4), (rTAND, 0, 1)]

def chkRole (m : Store W) : List Nat :=
  allPlots.filter (fun p => decide (6 < cRole m p)) ++ roleLimits.flatMap (fun l =>
    let ps := plotsIn m l.1
    (if l.2.2 < ps.length then ps else []) ++ (if ps.length < l.2.1 then [63] else []))

/-! ### 0x4 PORTS -/

def holders (m : Store W) (r n : Nat) : List Nat := (plotsIn m r).filter (fun p => maskHas (cPortMask m p) n)

def chkPorts (m : Store W) : List Nat :=
  (List.range 16).flatMap (fun n =>
    let ws := holders m rWARD n
    let ts := holders m rTT n
    (if ws.length = 0 then [63] else if 1 < ws.length then ws else []) ++ (if 1 < ts.length then ts else []))

/-! ### 0x5 CULVERT (R434) -/

def culvPlots (m : Store W) (c : Nat) : List Nat := (plotsIn m rCULV).filter (fun p => cCulvert m p = c)

def chkCulvert (m : Store W) : List Nat :=
  (plotsIn m rCULV ++ plotsIn m rTAND).filter (fun p => cCulvert m p = 0)
    ++ [1, 2, 3].flatMap (fun c => if 1 < (culvPlots m c).length then culvPlots m c else [])
    ++ (plotsIn m rTAND).filter (fun p => decide (cCulvert m p ≠ 1) || (culvPlots m 1).isEmpty
          || (plotW m p 9).bits 31 16 = 0)

/-! ### 0x6 SLOT (R224) -/

/-- Slots in ascending START order without overlap, each inside its limits. -/
def slotsOk : Nat → List Slot → Bool
  | _, [] => true
  | from_, s :: l =>
    s.cls ≠ 3 && 1 ≤ s.len && s.len ≤ 28500 && 1500 ≤ s.start && s.start ≤ 29999 && s.start + s.len ≤ 30000
      && from_ ≤ s.start && slotsOk (s.start + s.len) l

/-- A list that ends in its one end marker. -/
def listOk (l : List Slot) : Bool := l.getLast? = some ⟨3, 0, 0⟩ && slotsOk 0 l.dropLast

/-- The lists of p and q share a word. -/
def listsMeet (m : Store W) (p q : Nat) : Bool :=
  cSchedOff m p < cSchedOff m q + cSchedLen m q && cSchedOff m q < cSchedOff m p + cSchedLen m p

def chkSlot (m : Store W) : List Nat :=
  (workPlots m).filter (fun p =>
    !listOk (cSlotList m p) || decide (0x2000 < cSchedOff m p + cSchedLen m p)
      || (workPlots m).any (fun q => q ≠ p && listsMeet m p q))

/-! ### 0x7 SPATE, 0x8 BUDGET -/

def chkSpate (m : Store W) : List Nat :=
  (workPlots m).filter (fun p => decide (cSpateRes m p ≠ cSpateSum m p) || decide (11400 < cSpateRes m p))

def chkBudget (m : Store W) : List Nat :=
  (workPlots m).filter (fun p => decide (((cSlots m p).map Slot.len).sum < cWorstUse m p))

/-! ### 0x9 ITEM (R640) -/

/-- The longest slot of a class, 0 where there is none. -/
def longestSlot (m : Store W) (p cls : Nat) : Nat :=
  (((cSlots m p).filter (fun s => s.cls = cls)).map Slot.len).foldl max 0

def hasSlot (m : Store W) (p cls : Nat) : Bool := (cSlots m p).any (fun s => s.cls = cls)

/-- A port of the mask has TC_EN 1. -/
def maskTc (m : Store W) (p : Nat) : Bool :=
  [12, 13, 14, 15].any (fun n => maskHas (cPortMask m p) n && (rdW m (0x20000 + 256 * n + 9)).bit 0)

/-- The item kinds R640 requires of Pp, with the class each must have; none: any of 0 to 2. -/
def needKinds (m : Store W) (p : Nat) : List (Nat × Option Nat) :=
  let r := cRole m p
  let w := plotW m p 10
  let byClass := [(1, some 1)] ++ (if hasSlot m p 0 then [(0, some 0)] else []) ++ (if hasSlot m p 2 then [(2, some 2)] else [])
  if r = rTT then
    [(1, some 1), (3, none)] ++ (if cPortMask m p &&& w.bits 15 0 ≠ 0 then [(0, some 0)] else [])
      ++ (if cPortMask m p &&& w.bits 31 16 ≠ 0 then [(2, some 2)] else [])
  else if r = rCULV then byClass ++ [(3, none)]
  else if r = rFUNC then byClass ++ (if (plotsIn m rFUNC).head? = some p then [(3, none)] else [])
  else if r = rCAD then [(1, some 1)] ++ (if !cadSense m p && !cadFlow m p then [(0, some 0)] else [])
  else if r = rWARD then [(0, none), (1, none)] ++ (if maskTc m p then [(2, none)] else [])
  else if r = rTAND then [(0, none), (1, none)]
  else []

def kindBad (m : Store W) (p : Nat) (k : Nat × Option Nat) : Bool :=
  let c := cClass m p k.1
  c = 3 || (match k.2 with | some want => decide (c ≠ want) | none => false)

/-- A kind in use whose cost is 0, above 4,096 or longer than any slot of its class. -/
def costBad (m : Store W) (p k : Nat) : Bool :=
  cClass m p k ≠ 3 && (cCost m p k = 0 || decide (4096 < cCost m p k)
    || decide (longestSlot m p (cClass m p k) < cCost m p k))

def chkItem (m : Store W) : List Nat :=
  (workPlots m).filter (fun p => (needKinds m p).any (kindBad m p) || (List.range 8).any (costBad m p))

/-! ### 0xA TURN, 0xB CAP -/

/-- The cost of the longest Spate item. -/
def longestSpate (m : Store W) (p : Nat) : Nat :=
  (((List.range 8).filter (fun k => cClass m p k = 0)).map (cCost m p)).foldl max 0

def chkTurn (m : Store W) : List Nat :=
  (workPlots m).filter (fun p =>
    (cSlots m p).any (fun s => s.cls = 0 && decide (s.len < longestSpate m p + cTurn m p))
      || (cRole m p = rCULV && cCulvert m p ≠ 0 && decide (cTurn m p < kSpateTurn m (cCulvert m p - 1))))

def chkCap (m : Store W) : List Nat :=
  (workPlots m).filter (fun p => decide (16128 < cLedgerCap m p) || decide (4096 < cParcelCap m p))

/-! ### 0xC LINKED: only for commits in RUN -/

/-- Working copies and configuration space, side by side. -/
structure Pair where
  old : Nat → Store W
  new : Store W

def Pair.either (x : Pair) (p : Nat) (f : Store W → Bool) : Bool := f (x.old p) || f x.new

/-- Pp is IDLE in both copies: its words 1 to 12 are neither checked nor used (R224). -/
def Pair.idle (x : Pair) (p : Nat) : Bool := cRole (x.old p) p = rIDLE && cRole x.new p = rIDLE

def maskMoved (x : Pair) (p : Nat) : Bool := !x.idle p && cPortMask (x.old p) p ≠ cPortMask x.new p
def culvMoved (x : Pair) (p : Nat) : Bool := !x.idle p && cCulvert (x.old p) p ≠ cCulvert x.new p
def bindMoved (x : Pair) (p : Nat) : Bool := !x.idle p && cSluiceBind (x.old p) p ≠ cSluiceBind x.new p

/-- The plots that a changed PORT_MASK of Pp draws in. -/
def maskGroup (x : Pair) (p : Nat) : List Nat :=
  let moved (n : Nat) : Bool := maskHas (cPortMask (x.old p) p) n != maskHas (cPortMask x.new p) n
  allPlots.filter (fun q =>
    (x.either p (fun m => x.either q (fun m' => cRole m p = cRole m' q)))
      && (List.range 16).any (fun n => moved n && x.either q (fun m => maskHas (cPortMask m q) n)))

/-- The plots that a changed CULVERT of Pp draws in. -/
def culvGroup (x : Pair) (p : Nat) : List Nat :=
  let names (c : Nat) : Bool := c ≠ 0 && (c = cCulvert (x.old p) p || c = cCulvert x.new p)
  allPlots.filter (fun q =>
    x.either q (fun m => cRole m q = rCULV || cRole m q = rTAND) && x.either q (fun m => names (cCulvert m q)))

def linkedGroup (x : Pair) : List Nat :=
  allPlots.filter (fun p => maskMoved x p || culvMoved x p || bindMoved x p)
    ++ (allPlots.filter (maskMoved x)).flatMap (maskGroup x) ++ (allPlots.filter (culvMoved x)).flatMap (culvGroup x)

/-- The fence an open configuration's commit is to apply. -/
def stagedFence (s : State) : List Nat := if s.cfg.fPending && s.cfg.fForCommit then s.cfg.fenceList else []

def pairOf (s : State) : Pair := ⟨fun p => (s.plot p).wc, s.cfg.space⟩

def chkLinked (s : State) : List Nat :=
  let g := linkedGroup (pairOf s)
  if g.all (fun p => (stagedFence s).contains p) then [] else g

/-! ### 0xD FENCE_SPATE, 0xF NO_SPARE: only for commits in RUN -/

def chkFenceSpate (s : State) : List Nat :=
  (stagedFence s).filter (fun p => cSpateRes (s.plot p).wc p ≠ 0 || cSpateRes s.cfg.space p ≠ 0)

def chkNoSpare (s : State) : List Nat :=
  if s.field.noSpare then (changedPlots s).filter (fun p => !(stagedFence s).contains p) else []

/-! ### 0xE TABLES (R398, R572, R575) -/

/-- The largest INJ_SEL of a source's injection target, if it has one. -/
def injTop (m : Store W) (c : Nat) : Option Nat :=
  if c = 0x63 then some 0xFFFF
  else if c = 0x64 then some 0x7F
  else if c = 0x51 then some 0
  else if c = 0x6F then some 0xFF
  else if 1 ≤ c ∧ c ≤ 0x3F ∧ cRole m (c - 1) = rTAND then some 0
  else none

def injBad (m : Store W) (c : Nat) : Bool :=
  srcInj m c && (match injTop m c with | some t => decide (t < srcInjSel m c) | none => true)

def srcBad (m : Store W) (c : Nat) : Bool :=
  if listedSource c then
    (srcW m c 0).bits 3 0 = 0 || decide (13 < (srcW m c 0).bits 7 4) || (srcW m c 0).bits 31 10 ≠ 0
      || (srcW m c 1).bits 31 18 ≠ 0 || srcW m c 2 ≠ 0 || srcW m c 3 ≠ 0 || injBad m c
  else (List.range 4).any (fun k => srcW m c k ≠ 0)

/-- Bits in use of a routing word: words 0 to 8 use [10:0], 9 and 10 use [8:0], the others none. -/
def routeBad (m : Store W) (k : Nat) : Bool :=
  let w := rdW m (0x70000 + k)
  if k < 9 then w.bits 31 11 ≠ 0 else if k < 11 then w.bits 31 9 ≠ 0 else w ≠ 0

def chkTables (m : Store W) : List Nat :=
  if (List.range 256).any (srcBad m) || (List.range 64).any (routeBad m) then [63] else []

/-! ### All checks (R236) -/

/-- The checks in code order, after 0x2. -/
def loadChecks (s : State) (inRun : Bool) : List (Nat × List Nat) :=
  let m := s.cfg.space
  [(3, chkRole m), (4, chkPorts m), (5, chkCulvert m), (6, chkSlot m), (7, chkSpate m), (8, chkBudget m), (9, chkItem m),
    (10, chkTurn m), (11, chkCap m), (12, if inRun then chkLinked s else []), (13, if inRun then chkFenceSpate s else []),
    (14, chkTables m), (15, if inRun then chkNoSpare s else [])]

/-- CHECK_CODE and FAIL_PLOT of the first check that fails; (0, 63) when all pass. -/
def runChecks (s : State) (crcOk inRun : Bool) : Nat × Nat :=
  if !crcOk then (2, 63)
  else match (loadChecks s inRun).find? (fun c => !c.2.isEmpty) with
    | some c => (c.1, c.2.foldl min 63)
    | none => (0, 63)

/-! ### The image (R222, R226) -/

def imgW (s : State) (k : Nat) : W := (s.seedWord (0x400 + k)).data
def imgDouble (s : State) (k : Nat) : Bool := (s.seedWord (0x400 + k)).ecc = .double

/-- DEST and LENGTH of the descriptors in use. -/
def imgSections (s : State) : List (Nat × Nat) :=
  (List.range (imgW s 3).toNat).map (fun k => ((imgW s (8 + 2 * k)).bits 23 0, (imgW s (9 + 2 * k)).bits 15 0))

/-- A section lies wholly inside the configuration space; no two of its ranges adjoin. -/
def sectionIn (x : Nat × Nat) : Bool := coveredRanges.any (fun r => r.1 ≤ x.1 && x.1 + x.2 ≤ r.1 + r.2)

def sectionsApart : List (Nat × Nat) → Bool
  | [] => true
  | x :: l => l.all (fun y => x.1 + x.2 ≤ y.1 || y.1 + y.2 ≤ x.1) && sectionsApart l

/-- Check 0x1 passes. -/
def headerOk (s : State) : Bool :=
  imgW s 0 = 0x53454544 && (imgW s 1).bits 15 0 = 1 && (imgW s 1).bits 31 16 = Config.rev.bits 15 8
    && 32 ≤ (imgW s 2).toNat && (imgW s 2).toNat ≤ 15360 && 1 ≤ (imgW s 3).toNat && (imgW s 3).toNat ≤ 12
    && (imgSections s).all (fun x => 1 ≤ x.2 && x.2 ≤ 8192 && sectionIn x) && sectionsApart (imgSections s)
    && 32 + ((imgSections s).map Prod.snd).sum = (imgW s 2).toNat

/-- Check 0x2 passes for the image. -/
def imageOk (s : State) : Bool :=
  let n := (imgW s 2).toNat
  !(List.range n).any (imgDouble s)
    && crc32Words ((List.range n).map (fun k => if k = 7 then 0 else imgW s k)) = imgW s 7

/-- The words of the sections at their addresses; `k` is the image word of the first. -/
def loadSections (s : State) : List (Nat × Nat) → Nat → Store W → Store W
  | [], _, m => m
  | x :: l, k, m =>
    loadSections s l (k + x.2)
      ((List.range x.2).foldl (fun m i => wrW m (x.1 + i) (cfgStored (x.1 + i) (imgW s (k + i)))) m)

def imageSpace (s : State) : Store W := loadSections s (imgSections s) 32 []

end Sys2Proof.Machine
end

