-- ==== Sys2Proof/Machine/Commit.lean ====
section
/-!
DEFINITION. The commands of the single configuration (chapter 5): autoload, CRC passes, the check and the
application of a commit, fences, swap-based updates, and the expiry of the open window.
-/

namespace Sys2Proof.Machine

/-! ### CRC passes (R228, R229) -/

/-- The states in which passes run. -/
def passPhase (s : State) : Bool := s.pwr.phase = .run || s.pwr.phase = .quiesce || s.pwr.phase = .startup

def startPass (checking : Bool) (s : State) : State :=
  s.onCfg (fun c => { c with pass := some ⟨0, crc32Init, !c.isOpen, checking⟩ })

/-- The pass has read its 64 slices. -/
def passDone (s : State) (checking : Bool) : Option Pass :=
  match s.cfg.pass with
  | some q => if q.k = 64 && q.checking = checking then some q else none
  | none => none

/-- The boundary that ends a pass: its result is written, and the next pass begins. -/
def endPass (q : Pass) (s : State) : State :=
  startPass false (s.onCfg (fun c => { c with crc := crc32Fin q.crc, pass := none }))

/-- CRC_PASS_END. -/
def execCrcPassEnd (s : State) : Res State :=
  match passDone s false with
  | none => goOn s
  | some q =>
    let s1 := endPass q s
    if q.clean && !s.cfg.isOpen && crc32Fin q.crc ≠ s.cfg.ref then
      goOn (raise ⟨0x61, 0x05, 0⟩ (s1.onCfg (fun c => { c with mismatch := true })))
    else goOn s1

/-! ### Autoload (R108, R226) -/

/-- A check failed: nothing is applied. -/
def failCheck (code plot : Nat) (s : State) : State :=
  s.onCfg (fun c => { c with checkFail := true, checkCode := code, failPlot := plot, checking := false, auto := false })

/-- AUTOLOAD. The header and the image are checked; the sections are copied and the checking pass starts. -/
def execAutoload (s : State) : Res State :=
  goOn (onlyIf (s.pwr.phase = .startup && s.cfg.auto && !s.cfg.loaded) (fun s =>
    let s1 := s.onCfg (fun c => { c with loaded := true })
    if !headerOk s then failCheck 1 63 s1
    else if !imageOk s then failCheck 2 63 s1
    else startPass true (s1.onCfg (fun c => { c with space := imageSpace s, ref := imgW s 4 }))) s)

/-! ### Applying (R217, R237 to R240) -/

def stepEpoch (s : State) : State := s.onCfg (fun c => { c with epoch := c.epoch + 1 })

/-- In QUIESCE every plot but WARD and TAND plots is paused (R114). -/
def repause (s : State) : State :=
  forEach (List.range 63) (fun p s => s.onPlot p (fun q =>
    { q with paused := s.pwr.phase = .quiesce && cRole q.wc p ≠ rWARD && cRole q.wc p ≠ rTAND })) s

/-- Pp loads its words from the configuration space, where they differ from what it runs. -/
def reloadPlot (p : Nat) (s : State) : State :=
  if changedPlot s p then loadPlot p (extractPlot s.cfg.space p) s else s

/-- A joint step is applied: one epoch step where anything is applied, the device-scope words with MODE, and each
of its plots, which leave their pause. -/
def applyStep (st : CommitStep) (s : State) : State :=
  let s1 := applyMode (loadDevice (if st.makes then stepEpoch s else s))
  let s2 := forEach st.plots (fun p s => (reloadPlot p s).onPlot p (fun q => { q with fenced := false })) s1
  repause (s2.onCfg (fun c => { c with step := none, pend := c.pend.filter (fun p => !st.plots.contains p) }))

/-- A fence that has been applied (R245). -/
def fenceDone (s : State) : State := endFence (s.onCfg (fun c => { c with fApplied := true }))

/-! ### The check of a commit and its acceptance (R232, R234, R237, R239, R242, R245, R248) -/

/-- The write buffer of the path that owns the configuration is empty. -/
def ownerDrained (s : State) : Bool :=
  if s.usb.owner = 2 then s.uWin.wbuf.isNone else s.tWin.wbuf.isNone

/-- COMMIT_CHECK_START: the checking pass takes the place of the pass under way. -/
def execCommitCheckStart (s : State) : Res State :=
  goOn (onlyIf (s.cfg.commitAt && ownerDrained s && passPhase s)
    (fun s => startPass true (s.onCfg (fun c => { c with commitAt := false }))) s)

/-- The plots pause as for a fence. -/
def pausePlots (l : List Nat) (s : State) : State :=
  forEach l (fun p => State.onPlot p (fun q => { q with fenced := true })) s

/-- The staged fence is to be applied with this commit, and its plots are paused from now. -/
def takeFence (s : State) : State :=
  if (stagedFence s).isEmpty then s
  else s.onCfg (fun c => { c with fAccepted := true, fPaused := true, fAt := s.tick.now })

/-- The members of two ascending lists. -/
def joinNat (a b : List Nat) : List Nat := b.foldl (fun l p => insNat p l) a

/-- An accepted commit of software, by the state it is accepted in. -/
def acceptCommit (s : State) : State :=
  let ch := changedPlots s
  let dev := changedDevice s
  let fence := stagedFence s
  let swaps := ch.filter (fun p => !fence.contains p)
  let later (kind : StepKind) (l : List Nat) (makes : Bool) (n : Nat) (pend : List Nat) (s : State) : State :=
    s.onCfg (fun c =>
      { c with
        step := some ⟨kind, s.tick.now, l, makes⟩, pend := pend
        targetEpoch := c.epoch + BitVec.ofNat 32 (b2n makes + n) })
  match s.pwr.phase with
  | .startup => (later .startup ch (dev || !ch.isEmpty) 0 ch s).onPwr (fun p => { p with pendRun := true })
  | .quiesce =>
    let l := joinNat ch fence
    takeFence (pausePlots l (later .quiesce l (dev || !ch.isEmpty) 0 l s))
  | _ =>
    let s1 := if swaps.isEmpty then s else abandonTest s
    if fence.isEmpty then
      let s2 := applyMode (loadDevice (if dev then stepEpoch s1 else s1))
      s2.onCfg (fun c => { c with pend := swaps, targetEpoch := c.epoch + BitVec.ofNat 32 swaps.length })
    else
      let makes := dev || ch.any (fun p => fence.contains p)
      takeFence (pausePlots fence (later .fence fence makes swaps.length (joinNat ch fence) s1))

/-- The configuration is committed again. -/
def closeCfg (s : State) : State :=
  (s.onCfg (fun c => { c with isOpen := false, winRun := false, window := 0 })).onUsb (fun u => { u with owner := 0 })

/-- An autoload that passed every check: everything is loaded at the first boundary of RUN. -/
def acceptAutoload (s : State) : State :=
  let s1 := (s.onPlots (fun l => l.map (fun p => { p with epoch := 1 }))).onPwr (fun p => { p with pendRun := true })
  s1.onCfg (fun c =>
    { c with
      auto := false, checking := false, epoch := 1, targetEpoch := 1, stuck := [], pend := changedPlots s
      step := some ⟨.startup, s.tick.now, changedPlots s, false⟩ })

/-- COMMIT_CHECK_END. -/
def execCommitCheckEnd (s : State) : Res State :=
  match passDone s true with
  | none => goOn s
  | some q =>
    let c := runChecks s (crc32Fin q.crc = s.cfg.ref) (!s.cfg.auto && s.pwr.phase = .run)
    if s.cfg.auto then
      goOn (if c.1 = 0 then acceptAutoload (endPass q s) else failCheck c.1 c.2 (endPass q s))
    else if c.1 = 0 then
      let s1 := s.onCfg (fun k => { k with checking := false, commitOk := true, stuck := [] })
      goOn (endPass q (closeCfg (acceptCommit s1)))
    else
      let s1 := failCheck c.1 c.2 ((endPass q s).onCfg (fun k => { k with commitFail := true }))
      goOn (if c.1 = 13 then refuseFence 1 (endFence s1) else s1)

/-- COMMIT_APPLY_QUIESCE (R237, R248). -/
def execCommitApplyQuiesce (s : State) : Res State :=
  match s.cfg.step with
  | none => goOn s
  | some st => goOn (onlyIf (st.kind = .quiesce && decide (st.at_ < s.tick.now)) (fun s =>
      let s1 := applyStep st s
      settleOpen (if s.cfg.fPaused then fenceDone s1 else s1)) s)

/-! ### Fences (R244 to R248) -/

/-- FENCE_PAUSE: a fence requested while the configuration was not open. -/
def execFencePause (s : State) : Res State :=
  goOn (onlyIf (s.cfg.fPending && !s.cfg.fForCommit && !s.cfg.fPaused && decide (s.cfg.fAt < s.tick.now)) (fun s =>
    (pausePlots s.cfg.fenceList s).onCfg (fun c => { c with fPaused := true, fAt := s.tick.now })) s)

/-- FENCE_APPLY: the boundary after the pause. Without a commit to apply, nothing is loaded. Every paused plot leaves the
pause, one that a CMD 2 took off the list during it too. -/
def execFenceApply (s : State) : Res State :=
  let free : State → State := State.onPlots (fun l => l.map (fun q => { q with fenced := false }))
  if s.cfg.fPaused && decide (s.cfg.fAt < s.tick.now) then
    match s.cfg.step with
    | some st => goOn (if st.kind = .fence then settleOpen (fenceDone (free (applyStep st s))) else s)
    | none => goOn (settleOpen (fenceDone (free s)))
  else goOn s

/-! ### The open window (R231, R250) -/

/-- CFG_WINDOW_EXPIRE. -/
def execCfgWindowExpire (s : State) : Res State :=
  goOn (onlyIf (s.cfg.isOpen && !s.cfg.checking && decide (4096 ≤ s.cfg.window)) (fun s =>
    let s1 := closeCfg (s.onCfg (fun c => { c with expired := true }))
    raise ⟨0x61, 0x05, 1⟩ (if s.cfg.fPending then endFence s1 else s1)) s)

/-! ### Swap-based updates (R241, R242, R580, R581) -/

/-- The field works at swaps (R597). -/
def fieldSwaps (s : State) : Bool := s.pwr.phase = .run || s.pwr.phase = .quiesce

/-- UPDATE_LOAD: the fallow furrow loads the lowest pending plot. -/
def execUpdateLoad (s : State) : Res State :=
  match swapPend s with
  | [] => goOn s
  | p :: _ => goOn (onlyIf (fieldSwaps s && s.cfg.step.isNone && s.cfg.load.isNone && s.field.shadow.isNone
      && s.field.fallow.isSome)
      (State.onCfg (fun c => { c with load := some (p, extractPlot c.space p, s.tick.now) })) s)

/-- At the boundary that ends the load tick the loaded plot is shadowed. -/
def shadowLoaded (s : State) : State :=
  match s.cfg.load with
  | some (p, m, b) =>
    if b < s.tick.now then beginShadow .update p m (s.onCfg (fun c => { c with load := none })) else s
  | none => s

/-- The two CRCs differ: shadowing repeats, or the fallow furrow is lost (R581). -/
def mismatchShadow (h : Shadow) (s : State) : State :=
  let s1 := s.onField (fun x => { x with shadowMis := x.shadowMis + 1 })
  match h.mism, s.field.fallow with
  | true, some f => settleOpen (failFurrow true f s1)
  | _, _ => s1.onField (fun x => { x with shadow := some { h with mism := true, since := s.tick.now } })

/-- A shadowing whose two ticks have passed. -/
def shadowDue (s : State) : Option Shadow :=
  match s.field.shadow with
  | some h => if fieldSwaps s && decide (h.since + 2 ≤ s.tick.now) then some h else none
  | none => none

/-- UPDATE_SWAP. -/
def execUpdateSwap (equal : Bool) (s : State) : Res State :=
  match shadowDue s with
  | none => goOn s
  | some h =>
    if h.why ≠ .update then goOn s
    else if equal then goOn (settleOpen (repause (loadPlot h.plot h.newWc (stepEpoch (swapShadow h s)))))
    else goOn (mismatchShadow h s)

end Sys2Proof.Machine
end

