-- ==== Sys2Proof/Machine/Culverts.lean ====
section
/-! DEFINITION. The commands of the culverts (chapter 8). -/

namespace Sys2Proof.Machine

/-! ### Requests -/

/-- CULVERT_REQUEST (R345, R347 to R353). -/
def execCulvertRequest (spate poison : Bool) (ws : List W) (s : State) : Res State :=
  goOn (hostRequest spate poison ws s)

/-- C1_READ (R357, R372, R374, R383). -/
def execC1Read (spate : Bool) (tag : Byte) (nopf lock : Bool) (unit : BitVec 2) (addr : BitVec 15)
    (count : BitVec 7) (s : State) : Res State :=
  goOn (hostRequest spate false
    [reqWord0 tag.toNat 1 0 false lock nopf unit.toNat, mkW [(0, 15, addr.toNat), (16, 7, count.toNat)]] s)

/-- C1_WRITE (R357, R372, R374, R384). -/
def execC1Write (spate : Bool) (tag : Byte) (lock : Bool) (unit : BitVec 2) (addr : BitVec 15) (data : List W)
    (s : State) : Res State :=
  goOn (hostRequest spate false
    (reqWord0 tag.toNat 1 1 false lock false unit.toNat :: mkW [(0, 15, addr.toNat), (16, 7, data.length)] :: data) s)

/-- XFER (R369, R375). -/
def execXfer (spate : Bool) (c : CulvId) (tag : Byte) (idem lock : Bool) (station : Byte) (tx : List Byte)
    (rxLen : Byte) (s : State) : Res State :=
  goOn (hostRequest spate false
    (reqWord0 tag.toNat (c.val + 1) 2 idem lock false 0
      :: mkW [(0, 8, station.toNat), (8, 8, tx.length), (16, 8, rxLen.toNat)] :: packBytes tx) s)

/-- RMW (R377). -/
def execRmw (spate : Bool) (tag : Byte) (lock : Bool) (addr : BitVec 15) (andMask orMask : BitVec 12) (s : State) :
    Res State :=
  goOn (hostRequest spate false
    [reqWord0 tag.toNat 1 3 false lock false 0, mkW [(0, 15, addr.toNat)],
      mkW [(0, 12, andMask.toNat), (16, 12, orMask.toNat)]] s)

/-- SEM_ACQ (R378); `len` is LEN - 1. -/
def execSemAcq (spate : Bool) (c : CulvId) (tag : Byte) (base : BitVec 15) (len : BitVec 13) (sem : BitVec 3)
    (s : State) : Res State :=
  goOn (hostRequest spate false
    [reqWord0 tag.toNat (c.val + 1) 4 false false false 0,
      mkW [(0, 15, base.toNat), (16, 3, sem.toNat), (19, 13, len.toNat)]] s)

/-- SEM_REL (R378). -/
def execSemRel (spate : Bool) (c : CulvId) (tag : Byte) (sem : BitVec 3) (s : State) : Res State :=
  goOn (hostRequest spate false
    [reqWord0 tag.toNat (c.val + 1) 5 false false false 0, mkW [(16, 3, sem.toNat)]] s)

/-- CANCEL (R391, R392). -/
def execCancel (spate : Bool) (tag : Byte) (target : CancelName) (s : State) : Res State :=
  goOn (hostRequest spate false
    [reqWord0 tag.toNat target.culv.toNat 6 false false false 0, mkW [(0, 8, target.tag.toNat)]] s)

/-! ### Issue (R354, R355, R367) -/

/-- LATE_MAX of the stream of a timed READ (R460). -/
def lateMax (s : State) (k : Nat) : Nat :=
  match s.cadPlot k with
  | some p => cadLateMax (s.plot p).wc p
  | none => 4095

/-- An operation takes the wire: C1_AS_N falls, or the start bit of its frame is sent (R2, R377, R389). -/
def putOnWire (c : Nat) (o : COp) (cycle : Nat) (s : State) : State :=
  let again := o.kind = .xfer && o.fail ≠ 0
  let s1 := onOp c o.id (fun x =>
    { x with
      stat := .onWire, fail := 0
      attempts := if x.attempts = 0 || again then x.attempts + 1 else x.attempts
      frame := if again then 0 else x.frame
      reply := if again then [] else x.reply
      late := x.late || (x.kind = .timed
        && decide (x.dueCyc + lateMax s x.aux < (s.tick.now - x.dueTick) * 30000 + cycle)) }) s
  let s2 := emitted o.id s1
  let s3 := s2.onCulv c (fun k =>
    { k with
      chainNow := o.chain
      ser := if c = 0 then k.ser else .sending
      retries := if again then k.retries + 1 else k.retries })
  let s4 := if c = 0 then s3.onBus (fun b => { b with owed := false }) else s3
  settleLock c (if spoilsBuf o && c = 0 then touchQuiet (opRange o).1 (opRange o).2 s4 else s4)

/-- The frame of a split XFER that must follow on its string (R375). -/
def heldFrame (s : State) (c : Nat) : Option COp :=
  (s.culv c).ops.find? (fun o => o.stat = .between && o.fail = 0 && o.frame ≠ 0)

/-- The string is free for a frame: idle, or past the attempt before it (R371). -/
def stringFree (s : State) (c : Nat) : Bool := (s.culv c).ser = .idle || (s.culv c).ser = .spacing

/-- Nothing starts on the wire while the controller's claim on sluice A of the CULV plot waits (R328). -/
def culvWaits (s : State) (c : Nat) : Bool :=
  match s.culvPlot c with
  | some p => claimWaits s (2 * p) (0x51 + c)
  | none => false

/-- CULVERT_ISSUE (R354): on C1 inside a tenure with no burst under way and no foreign lock. -/
def execCulvertIssue (c : CulvId) (cycle : Nat) (lock : Bool) (s : State) : Res State :=
  let s0 := if c.val = 0 then s.onBus (fun b => { b with lockForeign := lock }) else s
  if c.val = 0 then
    if culvUsable s 0 && s.culvs.bus.held && (wireOp s 0).isNone && !lock && !culvWaits s 0 then
      match nextOp s 0 with
      | some o => goOn (putOnWire 0 o cycle s0)
      | none => goOn s0
    else goOn s0
  else if culvUsable s c.val && stringFree s c.val && !culvWaits s c.val then
    match (match heldFrame s c.val with | some o => some o | none => nextOp s c.val) with
    | some o => goOn (putOnWire c.val o cycle s)
    | none => goOn s
  else goOn s

/-! ### C1 bursts (R357 to R360, R377, R390) -/

/-- Parity is checked on this read data phase and found wrong; an armed injection inverts the check (R358, R572). -/
def phaseBad (s : State) (inj : Bool) (p : C1Phase) : Bool := kParChk s && (p.parOk == inj)

/-- Phase k of an operation is a read. -/
def readsAt (o : COp) (k : Nat) : Bool :=
  match o.kind with
  | .write => false
  | .rmw => k = 0
  | _ => true

/-- Run an operation over the phases completed: how far it came, and whether a parity error stopped it. Words
that a failing phase read do not count. -/
def runPhases (s : State) (inj : Bool) : List C1Phase → COp → COp × Bool
  | [], o => (o, false)
  | p :: ps, o =>
    if opPhases o ≤ o.done then (o, false)
    else if readsAt o o.done then
      if phaseBad s inj p then (o, true)
      else runPhases s false ps { o with got := o.got ++ [p.data], done := o.done + 1 }
    else runPhases s inj ps { o with done := o.done + 1 }

/-- The injection of the C1 controller is spent by the first read phase checked (R572). -/
def spendC1 (s : State) (o : COp) (ps : List C1Phase) : Bool :=
  armed s 0x51 0 && kParChk s && !ps.isEmpty && readsAt o o.done

/-- The word a phase addresses (R390). -/
def phaseAddr (o : COp) : Nat := if o.kind = .rmw then o.addr else o.addr + o.done

/-- Phases left for one burst: an RMW reads in one and writes in the next (R377). -/
def burstLeft (o : COp) : Nat := if o.kind = .rmw then 1 else opPhases o - o.done

/-- The word an RMW writes: (old AND AND_MASK) OR OR_MASK (R348, R377). -/
def rmwWord (o : COp) : BitVec 12 :=
  let m := o.data.headD 0
  (o.got.headD 0 &&& m.extractLsb' 0 12) ||| m.extractLsb' 16 12

/-- The words that the next n phases of an operation drive on C1_D0 to C1_D11 (R357, R377). -/
def drivenWords (o : COp) (n : Nat) : List (BitVec 12) :=
  match o.kind with
  | .write => ((o.data.drop o.done).take n).map (fun w => w.setWidth 12)
  | .rmw => if o.done = 1 && decide (0 < n) then [rmwWord o] else []
  | _ => []

/-- A prefetch that closed OK fills its buffer (R382). -/
def fillBuf (o : COp) (s : State) : State :=
  if o.kind = .prefetch then s.onCulv 0 (fun k =>
    { k with bufs := (k.bufs.filter (fun b => b.1 < o.aux)) ++
        (o.aux, o.addr, o.got, s.tick.now) :: (k.bufs.filter (fun b => o.aux < b.1)) })
  else s

/-- The phases of a burst as the operation on the wire takes them, with the tenure's count (R366); `cut` when one more
phase had begun. -/
def tookPhases (cut : Bool) (o : COp) (ps : List C1Phase) (s : State) : COp × Bool × State :=
  let l := ps.take (burstLeft o)
  let inj := spendC1 s o l
  let r := runPhases s inj l o
  let s1 := (if inj then disarm s else s).onBus (fun b =>
    { b with phases := b.phases + l.length, driven := drivenWords o (l.length + b2n cut) })
  (r.1, r.2, onOp 0 o.id (fun _ => r.1) s1)

/-- A parity error ends the operation; one whose entry has closed raises CULV_FAR (R358, R390). -/
def farEnd (o : COp) (s : State) : State :=
  let s1 := noteFar 0 (phaseAddr o) 1 s
  endOp 0 o (if o.closed then raiseCulv 0 0x1B (farAddr 0 (phaseAddr o)) s1
    else closeOp 0 o .errFar 1 (phaseAddr o) false s1)

/-- Where a burst leaves its operation `o`, which a parity error stopped where `bad` (R355, R357, R388, R391). -/
def endBurst (o : COp) (bad : Bool) (s : State) : State :=
  if bad then farEnd o s
  else if o.closed && (!o.runsOn || opPhases o ≤ o.done) then endOp 0 o s
  else if o.cancel then endOp 0 o (closeOp 0 o .cancelledLate 0 0 false s)
  else if opPhases o ≤ o.done then wantPrefetch o (fillBuf o (endOp 0 o (closeOp 0 o .ok 0 0 false s)))
  else
    let s2 := onOp 0 o.id (fun x => { x with stat := .between }) s
    let yields := o.cls ≠ .spate && o.chain = 0 && (match nextOp s2 0 with | some n => n.cls = .spate | none => false)
    if yields then s2.onCulv 0 (fun k => { k with yields := k.yields + 1 }) else s2

/-- The entry of a prefetch of range i opens, up to the end of the range and of the address space (R357, R382); none
where it cannot begin now, and the wish is spent where the range has nothing left or no buffer. -/
def openPrefetch (i : Nat) (fed : Bool) (s : State) : Option COp × State :=
  let want := rdStore 0 s.culvs.c1.pfWant i
  let start := want - 1
  let stop := min 0x8000 (kQrBase s i + kQrLen s i)
  let s1 := s.onCulv 0 (fun k => { k with pfWant := wrStore 0 k.pfWant i 0 })
  match s.culvPlot 0 with
  | none => (none, s)
  | some p =>
    if want = 0 || !plotRuns s p || !accepting s || s.pwr.blkHeld.getLsbD 4 then (none, s)
    else if kQrLen s i = 0 || stop ≤ start || !s.culvs.c1.pfBuf.contains i then (none, s1)
    else
      match allocId s p (cLedgerCap (s.plot p).wc p) .seep with
      | none => (none, s)
      | some id =>
        let o : COp := { mkOp false ⟨p, p, 0, .seep, 0, false⟩ (reqHead (mkW [(8, 2, 1)])) 0 id with
          kind := .prefetch, addr := start, count := min (kQrDepth s i) (stop - start), aux := i, fed := fed }
        (some o, (openEntry id { mkEntry p .prefetch (opLimit s 0) o with tag := 0 } s1).onCulv 0 (fun k =>
          { k with ops := k.ops ++ [o] }))

/-- The words of a prefetch follow the READ `o` in the burst that ends, when no other work waits (R382). -/
def prefetchOn (o : COp) (ps : List C1Phase) (s : State) : State :=
  match (if o.kind = .read then quietRange s o.addr o.count else none) with
  | none => s
  | some i =>
    if ps.isEmpty || (nextOp s 0).isSome || !s.culvs.bus.held || !culvUsable s 0
        || rdStore 0 s.culvs.c1.pfWant i ≠ o.addr + o.count + 1 then s
    else
      match openPrefetch i true s with
      | (none, s1) => s1
      | (some x, s1) =>
        let x1 : COp := { x with stat := .onWire, attempts := 1 }
        let t := tookPhases false x1 ps (emitted x.id (onOp 0 x.id (fun _ => x1) s1))
        endBurst t.1 t.2.1 t.2.2

/-- C1_BURST_END. -/
def execC1BurstEnd (phases : List C1Phase) (s : State) : Res State :=
  match wireOp s 0 with
  | none => goOn s
  | some o =>
    let t := tookPhases false o phases s
    goOn (prefetchOn o (phases.drop (burstLeft o)) (endBurst t.1 t.2.1 t.2.2))

/-- C1_ACK_TIMEOUT (R360). -/
def execC1AckTimeout (phases : List C1Phase) (s : State) : Res State :=
  match wireOp s 0 with
  | none => goOn s
  | some o =>
    let t := tookPhases true o phases s
    let o1 := t.1
    let s1 := t.2.2
    if t.2.1 then goOn (farEnd o1 s1)
    else goOn (endOp 0 o1 (closeOp 0 o1 (if o1.cancel then .cancelledLate else .timeout) (if o1.cancel then 0 else 1)
      0 false s1))

/-! ### C1 arbitration (R363 to R367) -/

/-- C1_GRANT: the arbiter takes the free bus itself, or grants it to a member. -/
def execC1Grant (br lock : Bool) (s : State) : Res State :=
  let s0 := s.onBus (fun b => { b with lockForeign := lock })
  if kArbiter s && tandAllows s && !s.pwr.c1Reset && !s.culvs.c1.safe && (s.culvPlot 0).isSome && kEnable s 0
      && !s.culvs.bus.held && !s.culvs.bus.granting && !lock && busLive s && !s.pwr.blkHeld.getLsbD 4 then
    if c1Work s && (!br || s.culvs.bus.foreignLast) then
      goOn (s0.onBus (fun b => { b with held := true, owed := true, phases := 0 }))
    else if br then goOn (s0.onBus (fun b => { b with granting := true }))
    else goOn s0
  else goOn s0

/-- C1_GRANT_TAKEN: a requesting member takes the grant. -/
def execC1GrantTaken (s : State) : Res State :=
  goOn (onlyIf (!kArbiter s && c1Work s && !s.culvs.bus.held)
    (State.onBus (fun b => { b with held := true, owed := true, phases := 0 })) s)

/-- ARB_NOTAKE: the grant is withdrawn. -/
def execArbNotake (s : State) : Res State :=
  goOn (onlyIf s.culvs.bus.granting (fun s =>
    (s.onBus (fun b => { b with granting := false })).onCulv 0 (fun k => { k with evt := k.evt ||| 0x20 })) s)

/-- TENURE_END (R361, R365, R366): a tenure that still owes a C1_AS_N fall ends with a null cycle. -/
def execTenureEnd (br : Bool) (s : State) : Res State :=
  let b := s.culvs.bus
  goOn (onlyIf (b.held && (wireOp s 0).isNone && s.culvs.c1.chainNow = 0
      && (!c1Work s || (br && decide (kTenure s ≤ b.phases)))) (fun s =>
    (s.onBus (fun b => { b with held := false, owed := false, phases := 0, foreignLast := false })).onCulv 0 (fun k =>
      if b.owed then { k with nullCyc := k.nullCyc + 1 } else k)) s)

/-- FOREIGN_AS_FALL (R363, R384): the tenure of another master; a grant is drawn back. -/
def execForeignAsFall (lock : Bool) (s : State) : Res State :=
  let s1 := s.onBus (fun b => { b with granting := false, foreignLast := true, lockForeign := lock })
  goOn (if kInvForeign s then dropAllBufs s1 else s1)

/-! ### C2 and C3 (R369 to R371, R375, R389) -/

/-- Frames of an XFER (R375). -/
def frameCount (s : State) (c : Nat) (o : COp) : Nat := max 1 ((o.tx.length + kMaxFrame s c - 1) / kMaxFrame s c)

def setSer (c : Nat) (v : SerSt) (s : State) : State := s.onCulv c (fun k => { k with ser := v })

/-- A frame, with its reply if it has one, ended well. -/
def frameOk (c : Nat) (o : COp) (s : State) : State :=
  let s1 := setSer c .spacing s
  if o.closed && !o.runsOn then endOp c o s1
  else if o.frame + 1 < frameCount s c o then
    onOp c o.id (fun x => { x with stat := .between, frame := x.frame + 1 }) s1
  else endOp c o (closeOp c o .ok 0 0 false s1)

/-- An attempt failed with a DETAIL; 6 is no reply. -/
def attemptFailed (c : Nat) (o : COp) (d : Nat) (s : State) : State :=
  let s1 := setSer c .spacing (if d = 6 then s else noteFar c o.addr d s)
  if o.closed then endOp c o (if d = 6 then s1 else raiseCulv c 0x1B (farAddr c o.addr) s1)
  else if o.idem && decide (o.attempts < 3) then
    onOp c o.id (fun x => { x with stat := .between, fail := d }) s1
  else if o.idem then
    endOp c o (if d = 6 then closeOp c o .timeout 2 0 false s1 else closeOp c o .errFar d o.addr false s1)
  else endOp c o (closeOp c o .errUncertain d o.addr false s1)

/-- SERIAL_FRAME_END (R369, R370). -/
def execSerialFrameEnd (c : CulvId) (echoBad : Bool) (s : State) : Res State :=
  match (s.culv c.val).ser, wireOp s c.val with
  | .sending, some o =>
    let bad := echoBad && kEcho s c.val
    let s1 := if bad then s.onCulv c.val (fun k => { k with evt := k.evt ||| 0x80 }) else s
    if o.rxLen = 0 then goOn (if bad then attemptFailed c.val o 5 s1 else frameOk c.val o s1)
    else goOn (setSer c.val .waiting (if bad then onOp c.val o.id (fun x => { x with fail := 5 }) s1 else s1))
  | _, _ => goOn s

/-- The first fault of a reply of the wanted length (255: 1 to 254 bytes, R349), and the bytes before it. -/
def replyFault (rx : Nat) : List SerChar → Nat → List Byte → List Byte × Nat
  | [], n, acc => (acc, if n < (if rx = 255 then 1 else rx) then 4 else 0)
  | ch :: l, n, acc =>
    if ch.framing then (acc, 2)
    else if ch.ninth then (acc, 3)
    else if n + 1 > (if rx = 255 then 254 else rx) then (acc, 4)
    else replyFault rx l (n + 1) (acc ++ [ch.data])

/-- SERIAL_REPLY_COMPLETE (R370). -/
def execSerialReplyComplete (c : CulvId) (chars : List SerChar) (s : State) : Res State :=
  match (s.culv c.val).ser, wireOp s c.val with
  | .waiting, some o =>
    let r := replyFault o.rxLen chars 0 []
    let o1 := { o with reply := o.reply ++ r.1 }
    let s1 := onOp c.val o.id (fun _ => o1) s
    if o.fail = 5 then goOn (attemptFailed c.val o1 5 s1)
    else if r.2 ≠ 0 then goOn (attemptFailed c.val o1 r.2 s1)
    else goOn (frameOk c.val o1 s1)
  | _, _ => goOn s

/-- REPLY_TIMEOUT (R370). -/
def execReplyTimeout (c : CulvId) (s : State) : Res State :=
  match (s.culv c.val).ser, wireOp s c.val with
  | .waiting, some o => goOn (attemptFailed c.val o (if o.fail = 5 then 5 else 6) s)
  | _, _ => goOn s

/-- SERIAL_RETRY (R389): the failed attempt is repeated, but inside no split XFER and no chain of another (R375, R377). -/
def execSerialRetry (c : CulvId) (s : State) : Res State :=
  let n := (s.culv c.val).chainNow
  match (s.culv c.val).ops.find? (fun o => o.stat = .between && o.fail ≠ 0 && !o.closed && (n = 0 || o.chain = n)) with
  | some o => goOn (onlyIf (decide (c.val ≠ 0) && culvUsable s c.val && stringFree s c.val && (wireOp s c.val).isNone
        && (heldFrame s c.val).isNone && !culvWaits s c.val) (putOnWire c.val o 0) s)
  | none => goOn s

/-! ### Timeouts (R379, R388, R419) -/

/-- The ticks of an entry's timeout have passed. -/
def timedOut (s : State) (e : Entry) : Bool := e.opn && decide (e.limit ≤ s.tick.now - e.openAt)

/-- R419: a forwarded operation closes here, and a CANCEL for its TAG goes to the keeper when it was sent. -/
def forwardTimeout (id : Nat) (s : State) : State :=
  match fwdOf s id with
  | none => s
  | some x =>
    let s1 := closeFwd false id .timeout 3 s
    if s.tand.fwd.any (fun f => f.1 = id) then
      queueFwd noHost (s.entry id).cls (cancelWords (x.1.bits 7 0) (x.1.bits 7 0)) s1
    else s1

/-- A timed READ that has not fallen due yet closes TIMEOUT; its sample will be FAILED (R445, R457). -/
def stagedTimeout (id : Nat) (s : State) : State :=
  if s.cads.any (fun c => c.stagedIds.any (fun x => x.2 = some id)) then unstage id (closeLone 0 id .timeout s) else s

/-- OP_TIMEOUT (R388). -/
def execOpTimeout (id : BitVec 14) (s : State) : Res State :=
  let i := id.toNat
  if timedOut s (s.entry i) then
    match [0, 1, 2].find? (fun c => (s.culv c).ops.any (fun o => o.id = i && !o.closed)) with
    | some c =>
      match (s.culv c).ops.find? (fun o => o.id = i) with
      | some o => goOn (closeOp c o .timeout 3 0 false s)
      | none => goOn s
    | none => goOn (stagedTimeout i (forwardTimeout i s))
  else goOn s

/-- SEM_TIMEOUT (R379). -/
def execSemTimeout (c : CulvId) (sem : BitVec 3) (s : State) : Res State :=
  match (s.culv c.val).sems.find? (fun e => e.1 = sem.toNat) with
  | some e => goOn (onlyIf (decide (kSemTimeout s c.val ≤ s.tick.now - e.2.since)) (State.onCulv c.val (fun k =>
      { k with sems := k.sems.filter (fun x => x.1 ≠ sem.toNat), evt := k.evt ||| 0x10 })) s)
  | none => goOn s

/-! ### Quiet ranges (R382, R384) -/

/-- PREFETCH_START (R382): a Seep entry for the words after the READ, which an item of the CULV plot issues. -/
def execPrefetchStart (r : BitVec 3) (s : State) : Res State :=
  match openPrefetch r.toNat false s with
  | (none, s1) => goOn s1
  | (some o, s1) => goOn (readyOp o s1)

/-- PREFETCH_AGE_EXPIRE (R384). -/
def execPrefetchAgeExpire (r : BitVec 3) (s : State) : Res State :=
  goOn (s.onCulv 0 (fun k => { k with bufs := k.bufs.filter (fun b =>
    !(b.1 = r.toNat && decide (kQrAge s r.toNat ≤ s.tick.now - b.2.2.2))) }))

/-! ### Attention and power-fail inputs (R386, R398) -/

/-- ATTENTION_INPUT_CHANGE: the outputs follow (attnOutBall, pfailOutBall), and an assertion sets an enabled edge flag. -/
def execAttentionInputChange (latn : Byte) (pfail : Bool) (s : State) : Res State :=
  let s1 := s.onCulvs (fun k => { k with latn := latn, pfail := pfail })
  let w := rdW s.cfg.route (0x70000 + 10)
  let rise (k : Nat) : Bool := w.bit k && !attnAsserted s k && attnAsserted s1 k
  goOn (s1.onCulvs (fun k => { k with
    latnEdge := k.latnEdge ||| BitVec.ofNat 9 (flagsW ((List.range 9).map rise)) }))

end Sys2Proof.Machine
end

