-- ==== Sys2Proof/Machine/Fallow.lean ====
section
/-!
DEFINITION. The commands of fallow rotation and self-test (chapter 14): rotation, shadowing and swaps, the furrow
test, failed furrows, the ADC calibration and the commons memory test.
-/

namespace Sys2Proof.Machine

/-! ### Rotation (R578 to R581) -/

/-- ROTATION_DUE. -/
def execRotationDue (s : State) : Res State :=
  goOn (onlyIf (fieldSwaps s && decide (rotTicks s.field.period ≤ s.field.counter))
    (State.onField (fun x => { x with due := true })) s)

/-- A plot is in a fence that is requested and not yet applied (R244, R586). -/
def inFence (s : State) (p : Nat) : Bool :=
  (s.plot p).fenced || ((s.cfg.fPending || s.cfg.fPaused) && s.cfg.fenceList.contains p)

/-- No shadowing, and no swap-based update pending or loading. -/
def fallowFree (s : State) : Bool := s.field.shadow.isNone && s.cfg.load.isNone && (swapPend s).isEmpty

/-- SHADOW_START: the target is the plot on the furrow one above the fallow. -/
def execShadowStart (s : State) : Res State :=
  match s.field.fallow with
  | none => goOn s
  | some f =>
    let p := plotOn s ((f + 1) % 64)
    goOn (onlyIf (fieldSwaps s && s.field.due && !s.field.halt && fallowFree s && !s.field.noSpare
        && s.field.testAt.isNone && !s.field.testWait && !inFence s p) (beginShadow .rotation p []) s)

/-- SHADOW_COMPARE, for a rotation or a forced test. -/
def execShadowCompare (equal : Bool) (s : State) : Res State :=
  match shadowDue s with
  | none => goOn s
  | some h => goOn (if h.why = .update then s else if equal then swapShadow h s else mismatchShadow h s)

/-! ### The furrow test (R582 to R584, R593, R641) -/

/-- FURROW_TEST_START. The test sluices are emptied; the test writes and reads their stages itself, and leaves nothing in
them (R337). -/
def execFurrowTestStart (s : State) : Res State :=
  goOn (onlyIf (fieldSwaps s && s.field.testWait && s.field.testAt.isNone && s.field.fallow.isSome && fallowFree s)
    (fun s => ((s.onField (fun x => { x with testAt := some s.tick.now, testWait := false })).onSluice 126
      emptySluice).onSluice 127 emptySluice) s)

/-- Ticks the running test has taken. -/
def testTicks (s : State) : Option Nat := s.field.testAt.map (s.tick.now - ·)

/-- FURROW_TEST_COMPLETE. -/
def execFurrowTestComplete (s : State) : Res State :=
  match testTicks s, s.field.fallow with
  | some t, some f => goOn (onlyIf (decide (292 ≤ t)) (State.onField (fun x =>
      { x with
        testAt := none, lastTested := f, lastPass := true, lastSig := Config.bistSig
        testsPassed := x.testsPassed + 1 })) s)
  | _, _ => goOn s

/-- LAST_SIG after a failed logic BIST: any value but the silicon signature. -/
def failedSig (v : W) : W := if v = Config.bistSig then v + 1 else v

/-- The fault of the fallow furrow may be found in the tick that ends now. -/
def faultFits (cause : FailCause) (s : State) : Bool :=
  match cause, testTicks s with
  | .phase1, some t => decide (1 ≤ t) && decide (t ≤ 2)
  | .phase2, some t => decide (3 ≤ t) && decide (t ≤ 34)
  | .phase3, some t => decide (t = 290)
  | .localStore, t => t.isSome || s.field.shadow.isSome || s.cfg.load.isSome
  | _, none => false

/-- FURROW_FAIL. -/
def execFurrowFail (cause : FailCause) (s : State) : Res State :=
  match s.field.fallow with
  | none => goOn s
  | some f => goOn (onlyIf (fieldSwaps s && faultFits cause s) (fun s =>
      settleOpen (failFurrow true f (if cause = .phase3 then
          (s.onField (fun x => { x with lastSig := failedSig (Config.failSig s.free) })).took else s))) s)

/-! ### A carrying furrow fails (R594, R595) -/

/-- The item under way waits at the front of the ready items again (R51). -/
def waitsAgain (q : Plot) : Plot := { q with ready := (q.running.map Running.item).toList ++ q.ready }

/-- The item under way is rolled back (R51, R52). -/
def rollItem (p : Nat) (s : State) : State :=
  (rollSluices p s).onPlot p (fun q => { waitsAgain q with running := none })

/-- LOCAL_STORE_ERROR. The cycles of the item under way count (R42). -/
def execLocalStoreError (p : PlotId) (s : State) : Res State :=
  goOn (onlyIf (fieldRuns s && !(s.plot p.val).stranded && !s.field.pendFail.contains (s.plot p.val).furrow) (fun s =>
    (stopItem p.val ((rollSluices p.val s).onPlot p.val waitsAgain)).onField (fun x => { x with pendFail := x.pendFail ++ [(s.plot p.val).furrow] })) s)

/-- Pp is carried by furrow f from now on, and restarts with its working copy loaded anew. -/
def movePlot (p f : Nat) (s : State) : State :=
  ((setMap f ⟨p, .carrying⟩ (takePlot false p s)).onPlot p (fun q =>
    { q with furrow := f, restart := true, reloadWc := true }))

/-- Pp has no furrow any more: `f` is the failed one its FURROW field names. -/
def strandPlot (p f : Nat) (s : State) : State :=
  seizeRole true p ((takePlot false p s).onPlot p (fun q => { q with stranded := true, furrow := f }))

/-- The IDLE plot that gives up its furrow. -/
def idleGiver (s : State) : Option Nat :=
  (List.range 63).reverse.find? (fun q => s.role q = rIDLE && !(s.plot q).stranded)

/-- The plot of failed furrow f moves to the fallow, to an IDLE plot's furrow, or is stranded. -/
def rehousePlot (p f : Nat) (s : State) : State :=
  match s.field.fallow with
  | some g =>
    (movePlot p g (dropUpdates (abortShadow s))).onField (fun x => { x with fallow := none, testAt := none, testWait := false })
  | none =>
    match idleGiver s with
    | some q => if q = p then strandPlot p f s else movePlot p (s.plot q).furrow (strandPlot q f s)
    | none => strandPlot p f s

/-- CARRYING_FURROW_FAIL. -/
def execCarryingFurrowFail (s : State) : Res State :=
  match s.field.pendFail with
  | [] => goOn s
  | f :: l =>
    let m := s.field.map.getD f ⟨63, .fallow⟩
    let s1 := failFurrow false f (s.onField (fun x => { x with pendFail := l }))
    goOn (settleOpen (if m.fst = .carrying then rehousePlot m.plot f s1 else s1))

/-! ### The ADC calibration (R587, R588) -/

/-- The sum of 64 codes lies within `d` of code `mid`, and no code differs from the mean by more than 12. -/
def setNear (mid d : Nat) (l : List Nat) : Bool :=
  let a := l.sum
  decide (64 * mid ≤ a + 64 * d) && decide (a ≤ 64 * mid + 64 * d)
    && l.all (fun c => decide (64 * c ≤ a + 768) && decide (a ≤ 64 * c + 768))

/-- ADC_CAL: the set of 64 ticks passes, or the previous correction is kept through two failing sets. -/
def execAdcCal (s : State) : Res State :=
  goOn (onlyIf (decide (64 ≤ s.adc.zs.length)) (fun s =>
    let z := s.adc.zs.take 64
    let r := s.adc.rs.take 64
    let s1 := s.onAdc (fun a =>
      { a with zs := a.zs.drop 64, rs := a.rs.drop 64, zMean := (z.sum + 32) / 64, rMean := (r.sum + 32) / 64 })
    if setNear 64 40 z && setNear 3413 82 r then
      s1.onAdc (fun a => { a with z := z.sum, r := r.sum, valid := true, trim := false, failRun := 0 })
    else
      raise ⟨0x58, 0x0A, 0⟩ (s1.onAdc (fun a =>
        { a with fails := a.fails + 1, failRun := a.failRun + 1, valid := a.valid && decide (a.failRun < 2) }))) s)

/-! ### The commons memory test (R590 to R592) -/

/-- The test has read and rewritten a word: its error is corrected, or marked, and its check bits are valid. How far a
test that is aborted had come is open: DESIGN CHOICE (log 92). -/
def testedWord (a : Nat) (s : State) : State :=
  let s1 := readCommons a s
  s1.setCword a { s1.cword a with err := .good }

/-- The parcel of a failing word is retired, with one event for its first failing word. -/
def retireWord (a : Nat) (s : State) : State :=
  let s1 := s.setCword a { s.cword a with poison := true }
  if s.field.retired.contains (a / 16) then s1
  else
    raise ⟨0x63, 0x08, a⟩ (s1.onField (fun x =>
      { x with retired := insNat (a / 16) x.retired, failWord := a, failValid := true }))

/-- MEMTEST_DONE. -/
def execMemtestDone (bad : List (BitVec 16)) (s : State) : Res State :=
  goOn (onlyIf s.field.memRun (fun s =>
    let s1 := forEach (s.mem.commons.map Prod.fst) testedWord s
    (forEach bad (fun a => retireWord a.toNat) s1).onField (fun x =>
      { x with memRun := false, memDone := true, memFail := x.memFail || !bad.isEmpty })) s)

end Sys2Proof.Machine
end

