-- ==== Sys2Proof/Machine/Hayward.lean ====
section
/-! DEFINITION. The commands of the Hayward and its event ring (chapter 13). -/

namespace Sys2Proof.Machine

/-- EVENT_LATCH: the oldest event raised is latched; in REST it wakes the device (R119, R547, R571). -/
def execEventLatch (s : State) : Res State :=
  match s.hay.raised with
  | [] => goOn s
  | e :: l => goOn (onlyIf (clocked s) (fun s => latchEvent e (wakeUp (s.onHay (fun h => { h with raised := l })))) s)

/-- SEVERE_RELEASE (R562). -/
def execSevereRelease (src : BitVec 7) (s : State) : Res State :=
  let q := s.src src.toNat
  let due := match q.hold with
    | some e => decide (e ≤ s.tick.now)
    | none => false
  goOn (onlyIf (clocked s && q.severe && due) (releaseSource src.toNat) s)

/-- The working copies of the Hayward are loaded anew (R569); the safe-state table is the option-byte shadow. -/
def reloadHayward (s : State) : State := s.onCfg (fun c => { c with hwTable := sliceStore c.space 0x50000 0x50400 })

/-- SAFE_RELEASE_APPLY (R569): judged again, then the device safe state ends. Plots run from the next boundary. -/
def execSafeReleaseApply (s : State) : Res State :=
  goOn (onlyIf (clocked s && s.hay.relReq) (fun s =>
    if severeAny s then s.onHay (fun h => { h with relReq := false, relRefused := true })
    else freePorts ((reloadHayward s).onHay (fun h => { h with relReq := false, safeDev := false }))) s)

/-- SELF_PAR (R570): acts in both modes and in REST. The injection of source 0x6F is spent by it (R572). -/
def execSelfPar (word : Byte) (queueOk : Bool) (s : State) : Res State :=
  goOn (onlyIf (clocked s) (fun s =>
    let s1 := wakeUp (if armed s 0x6F word.toNat then disarm s else s)
    let s2 := s1.onHay (fun h => { h with selfPar := true })
    let s3 := if queueOk then writeMsg true (msgWord ⟨0x6F, 0x3E, word.toNat⟩) s2 else s2
    enterSafe 2 0 (hazardEvent 0x6F 0x3E s3)) s)

/-- ALERT_SRC [15:0] as a packet carries it. -/
def alert16 (s : State) : BitVec 16 := BitVec.ofNat 16 (alertSrc s)

/-- A new endpoint 3 packet (R552): how many messages it takes, and its words. -/
def ringPacket (s : State) : Nat × List W :=
  let ms := s.hub.ring.take 14
  (ms.length,
    mkW [(0, 16, (alert16 s).toNat), (16, 4, ms.length),
      (20, 4, flagsW [s.hub.ringLost, s.hay.qovf, s.hay.safeDev, severeAny s]), (24, 8, s.hub.ringSeq.toNat)]
      :: s.tick.count :: ms)

/-- The packet an IN on endpoint 3 receives: the one not yet acknowledged, or a new one when the ring holds a
message or ALERT_SRC has changed. -/
def ringNext (s : State) : Option (Nat × List W) :=
  match s.hub.ringOut with
  | some o => some o
  | none => if !s.hub.ring.isEmpty || alert16 s ≠ s.hub.ringAlert then some (ringPacket s) else none

/-- An IN on endpoint 3. -/
def ringIn (ackd : Bool) (s : State) : State :=
  if (s.ep 19).halted then stall s
  else if !epServes s 3 then nak s
  else match ringNext s with
    | none => nak s
    | some o =>
      answer .ack o.2 [] (s.onHub (fun h =>
        let seq := if h.ringOut.isSome then h.ringSeq else h.ringSeq + 1
        if ackd then
          { h with
            ring := h.ring.drop o.1, ringLost := false, ringOut := none, ringSeq := seq
            ringAlert := (o.2.headD 0).setWidth 16 }
        else { h with ringOut := some o, ringSeq := seq }))

/-- EVENT_RING_IN (R284, R551, R552, R568). -/
def execEventRingIn (ackd : Bool) (s : State) : Res State := goOn (onlyIf (funcUp s) (ringIn ackd) s)

end Sys2Proof.Machine
end

