-- ==== Sys2Proof/Machine/Ports.lean ====
section
/-! DEFINITION. The commands of port power and sensing (chapter 11). -/

namespace Sys2Proof.Machine

/-- The warden of port n runs. -/
def wardenRuns (s : State) (n : Nat) : Bool := optRuns s (s.warden n)

/-! ### Requests (R467, R468, R508) -/

/-- An OFF is taken; one that finds a RAMP waiting for PEND_ON cancels it. -/
def takeOff (n : Nat) (s : State) : State :=
  dischargePort false n (s.onPort n (fun p => { p with pendOn := false }))

/-- An ON is taken. -/
def takeOn (n : Nat) (s : State) : State :=
  if refusesOn s n then s
  else match (s.port n).st with
    | .off => enterPower .ramp n s
    | .discharge => s.onPort n (fun p => { p with pendOn := true })
    | _ => s

/-- An ON of the host or CMD on a Type-C port that is not ATTACHED is not acted on. -/
def actsOn (s : State) (n : Nat) : Bool :=
  n < 12 || !tcEn s (n - 12) || (s.tc (n - 12)).st = .attached

/-- PORT_REQUEST_TAKEN: OFF wins; without a request, a RAMP recorded by PEND_ON begins. -/
def execPortRequestTaken (port : PortId) (s : State) : Res State :=
  let n := port.val
  goOn (onlyIf (wardenRuns s n) (fun s =>
    let p := s.port n
    let off := (p.reqs ++ p.tcReqs).contains false
    let on := (p.reqs.contains true && actsOn s n) || p.tcReqs.contains true
    let s1 := s.onPort n (fun p => { p with reqs := [], tcReqs := [] })
    if off then takeOff n s1
    else if on then takeOn n s1
    else if p.st = .off && p.pendOn then enterPower .ramp n s1
    else s1) s)

/-! ### RAMP and DISCHARGE (R469, R470, R493) -/

/-- RAMP_END: by the set of the tick before B + SS_TICKS, or the first one taken after it. -/
def execRampEnd (port : PortId) (s : State) : Res State :=
  let n := port.val
  let p := s.port n
  goOn (onlyIf (wardenRuns s n && p.st = .ramp && decide (p.since + pSsTicks s n ≤ p.setAt + 1)) (fun s =>
    if p.v.reason = 0 && decide (pPgTh s n ≤ p.v.code) then
      let s1 := enterPower .on n s
      if p.hostOn && (s.hubPort n).st = .poweredOff then s1.onHubPort n (fun h => { h with st := .disconnected }) else s1
    else
      raisePort n 0x2E (setEvt 2 n ((dischargePort false n s).onPort n (fun p => { p with rampFails := p.rampFails + 1 })))) s)

/-- DISCHARGE has lasted DISCH_TO ticks. -/
def dischOver (s : State) (n : Nat) : Bool := decide ((s.port n).since + pDischTo s n ≤ s.tick.now)

/-- DISCHARGE_SLOW is raised once. -/
def raiseSlow (n : Nat) (s : State) : State :=
  if (s.port n).slowRaised then s
  else raisePort n 0x2F (setEvt 3 n (s.onPort n (fun p => { p with slowRaised := true })))

/-- DISCHARGE_END: two low samples, or DISCH_TO where the VSNS channel is invalid. -/
def execDischargeEnd (port : PortId) (s : State) : Res State :=
  let n := port.val
  let p := s.port n
  goOn (onlyIf (wardenRuns s n && p.st = .discharge) (fun s =>
    if 2 ≤ p.lowRun then enterPower .off n s
    else if p.v.reason ≠ 0 && dischOver s n then
      enterPower .off n ((raiseSlow n s).onPort n (fun p => { p with pendOn := false }))
    else s) s)

/-- DISCHARGE_SLOW. -/
def execDischargeSlow (port : PortId) (s : State) : Res State :=
  let n := port.val
  goOn (onlyIf (wardenRuns s n && (s.port n).st = .discharge && dischOver s n) (raiseSlow n) s)

/-! ### Sample sets (R466, R477 to R479, R486 to R490) -/

/-- D08. -/
def d08 (s : State) (n : Nat) : Nat := 800 * 4096 / pVFs s n

/-- The sum of the two most recent valid samples of a channel. -/
def pairSum (c : Chan) : Option Nat :=
  match c.recent with
  | [a, b] => some (a + b)
  | _ => none

/-- A sample at the extreme that its bias drives an open wire to: sourcing in even ticks. -/
def atExtreme (s : State) (n code : Nat) (sourcing : Bool) : Bool :=
  if sourcing then decide (pOpenHi s n ≤ code) else decide (code ≤ pOpenLo s n)

/-- Two samples at opposite extremes, each agreeing with its bias. -/
def openPair (s : State) (n : Nat) (a b : Nat × Bool) : Bool :=
  a.2 != b.2 && atExtreme s n a.1 a.2 && atExtreme s n b.1 b.2

def usable (reason : Nat) : Bool := reason = 0 || reason = 3

/-- A channel takes a sample with its reason. -/
def takeSample (code reason : Nat) (sourcing : Bool) (c : Chan) : Chan :=
  { c with
    code := code, reason := reason
    recent := if reason = 0 then (code :: c.recent).take 2 else c.recent
    pair := if usable reason then some (code, sourcing) else c.pair }

/-- The pair rule qualifies for a channel that takes this sample. -/
def pairQualifies (s : State) (n code reason : Nat) (sourcing : Bool) (c : Chan) : Bool :=
  usable reason && (match c.pair with
    | some a => openPair s n a (code, sourcing)
    | none => false)

/-- The latch's cause is a trip of this channel. -/
def tripsOn (current : Bool) (p : PPort) : Bool :=
  if current then p.latch = .ocp || p.latch = .rcp else p.latch = .ovp

/-- An open wire is decided outside a classification of the same channel (R488). -/
def wireOpen (current : Bool) (n : Nat) (s : State) : State :=
  let p := s.port n
  if (if current then p.iOpen else p.vOpen) || (p.classifying && tripsOn current p) then s
  else
    let s1 := (dischargePort true n s).onPort n (fun p =>
      { p with
        latch := if p.classifying then p.latch else if current then .openI else .openV
        vOpen := p.vOpen || !current, iOpen := p.iOpen || current, opens := p.opens + 1, pendOn := false })
    raise ⟨srcPort n, 0x2B, n + 1 + 32 * b2n current⟩ (setEvt 1 n s1)

/-- The sampling instant of a channel in the tick of a boundary count, in FCLK cycles (R472). -/
def sampleInstant (at_ slot : Nat) : Nat := 60000 * at_ + 10 * (88 * slot + 64)

/-- The samples of a port join the classification of its trip. -/
def addPost (n at_ : Nat) (v i : Nat × Nat) (sourcing : Bool) (p : PPort) : PPort :=
  let current := tripsOn true p
  let x := if current then i else v
  let slot := 2 * n + b2n current
  if p.classifying && usable x.2 && decide (p.tripCyc ≤ sampleInstant at_ slot) && decide (p.post.length < 3) then
    { p with post := p.post ++ [(x.1, sourcing)] }
  else p

/-- The port quantities, from pair means; a channel whose wire is open computes none (R489). -/
def setQuantities (s : State) (n : Nat) (p : PPort) : PPort :=
  let v := if p.vOpen then none else pairSum p.v
  let i := if p.iOpen then none else pairSum p.i
  { p with
    vMv := match v with
      | some x => min 65535 (x * pVFs s n / 8192)
      | none => p.vMv
    iMa := match i with
      | some x => ((x : Int) - 2 * (pIZero s n : Int)) * (pIFs s n : Int) / 8192
      | none => p.iMa
    ocRun := match i with
      | some x => if p.st = .on && decide (2 * pIlim s n < x) then p.ocRun + 1 else 0
      | none => 0
    lowRun := if p.st = .discharge && p.v.reason = 0 then
        (if p.v.code < d08 s n then p.lowRun + 1 else 0) else p.lowRun }

/-- UV, and PORT_UV once per entry below UV_TH. -/
def checkUv (n : Nat) (s : State) : State :=
  let p := s.port n
  match (if p.vOpen || p.st ≠ .on then none else pairSum p.v) with
  | some x =>
    let low := decide (x < 2 * pUvTh s n)
    let s1 := s.onPort n (fun p => { p with uv := low })
    if low && !p.uv then raisePort n 0x2D (setEvt 4 n s1) else s1
  | none => s

/-- The boundary count of the tick whose TICK_COUNT [11:0] is `t`, the latest one past. -/
def tickOf12 (s : State) (t : Nat) : Nat := s.tick.now - (s.tick.count.toNat + 4096 - t) % 4096

/-- The reasons of a set for port n, with the marks of sets before it gone. -/
def takeMark (t : Nat) : List (Nat × Nat × Nat) → (Nat × Nat) × List (Nat × Nat × Nat)
  | [] => ((0, 0), [])
  | m :: l => if m.1 = t then (m.2, l) else takeMark t l

/-- The reason of a sample, or the one reported for a sample that came in a poisoned word (R334). -/
def setReason (bad : Option (BitVec 2)) (r : Nat) : Nat :=
  match bad with
  | some x => [1, 2, 4, 5].getD x.toNat 1
  | none => r

/-- A port takes its two samples of a set; a set it has taken before, whose words a roll-back returned, changes nothing
(R318). -/
def takePort (bad : Option (BitVec 2)) (n t v i : Nat) (s : State) : State :=
  if !(s.port n).marks.any (fun m => m.1 = t) then s else
  let at_ := tickOf12 s t
  let sourcing := decide (t % 2 = 0)
  let m := takeMark t (s.port n).marks
  let rv := setReason bad m.1.1
  let ri := setReason bad m.1.2
  let openV := pairQualifies s n v rv sourcing (s.port n).v
  let openI := pairQualifies s n i ri sourcing (s.port n).i
  let s1 := s.onPort n (fun p => setQuantities s n (addPost n at_ (v, rv) (i, ri) sourcing
    { p with v := takeSample v rv sourcing p.v, i := takeSample i ri sourcing p.i, marks := m.2, setAt := at_ }))
  let s2 := if openV then wireOpen false n s1 else s1
  let s3 := if openI then wireOpen true n s2 else s2
  checkUv n s3

/-- The ports of plot Pp's PORT_MASK, ascending. -/
def maskPorts (s : State) (p : Nat) : List Nat :=
  (List.range 16).filter (fun n => maskHas (cPortMask (s.plot p).wc p) n)

/-- WARDEN_SAMPLE_SET: the oldest set. -/
def execWardenSampleSet (p : PlotId) (s : State) : Res State :=
  let q := p.val
  if plotRuns s q && s.role q = rWARD then
    match popSet q s with
    | none => goOn s
    | some (ws, poison, s1) =>
      let l := maskPorts s q
      let bad := if poison then some (Config.poisonReason s.free) else none
      goOn (forEach ((List.range l.length).zip l) (fun x s =>
        takePort bad x.2 (ws.getD 0 0).toNat (ws.getD (1 + 2 * x.1) 0).toNat (ws.getD (2 + 2 * x.1) 0).toNat s)
        (if poison then s1.took else s1))
  else goOn s

/-- PORT_SLOW_OC. -/
def execPortSlowOc (port : PortId) (s : State) : Res State :=
  let n := port.val
  goOn (onlyIf (wardenRuns s n && (s.port n).st = .on && decide (pIlimTicks s n ≤ (s.port n).ocRun)) (fun s =>
    raisePort n 0x2C ((dischargePort true n s).onPort n (fun p => { p with latch := .slowOc, pendOn := false }))) s)

/-- A port of a warden whose set is dropped (R476, R477). -/
def dropPort (n : Nat) (s : State) : State :=
  setEvt 5 n (s.onPort n (fun p =>
    { p with
      setDrops := p.setDrops + 1, setAt := s.tick.now - 1
      marks := p.marks.filter (fun m => m.1 ≠ (s.tick.count.toNat + 4095) % 4096)
      v := { p.v with reason := 5 }, i := { p.i with reason := 5 } }))

/-- ADC_SET_DROP: a claim still not granted drops the set of the tick before. -/
def execAdcSetDrop (p : PlotId) (s : State) : Res State :=
  let q := p.val
  goOn (onlyIf (s.adc.sets.any (fun x => x.1 = q)) (fun s =>
    let s1 := (s.onAdc (fun a => { a with sets := a.sets.filter (fun x => x.1 ≠ q) })).onSluice (2 * q) (fun t =>
      { t with claims := t.claims.filter (fun c => c.peer ≠ 0x58) })
    let s2 := if s.role q = rWARD then forEach (maskPorts s q) dropPort s1 else dropSense q s1
    raisePlot q 0x26 0 s2) s)

/-! ### Protection (R483 to R486) -/

/-- The comparator is armed in the port's state (R463). -/
def cmpArmed (p : PPort) (c : Comparator) : Bool :=
  !p.safe && (p.st = .on || (p.st = .ramp && c ≠ .reverse))

def cmpLatch : Comparator → Latch
  | .overVoltage => .ovp
  | .overCurrent => .ocp
  | .reverse => .rcp

/-- PROTECTION_TRIP. A trip in REST wakes the device. -/
def execProtectionTrip (port : PortId) (cmp : Comparator) (cycle : Nat) (s : State) : Res State :=
  let n := port.val
  goOn (onlyIf (cmpArmed (s.port n) cmp) (fun s =>
    let s1 := (dischargePort true n s).onPort n (fun p =>
      { p with
        latch := cmpLatch cmp, classifying := true, pendOn := false, trips := p.trips + 1, tripTick := s.tick.count
        tripCyc := 60000 * s.tick.now + cycle, post := [] })
    wakeUp (setEvt 0 n s1)) s)

/-- The first three usable samples after the trip hold a qualifying pair. -/
def postOpen (s : State) (n : Nat) : List (Nat × Bool) → Bool
  | a :: b :: l => openPair s n a b || postOpen s n (b :: l)
  | _ => false

def tripKind : Latch → Nat
  | .ovp => 0x28
  | .ocp => 0x29
  | _ => 0x2A

/-- TRIP_CLASSIFIED: one event for the trip. -/
def execTripClassified (port : PortId) (s : State) : Res State :=
  let n := port.val
  let p := s.port n
  let wire := postOpen s n p.post
  let current := tripsOn true p
  goOn (onlyIf (wardenRuns s n && p.classifying && (wire || decide (3 ≤ p.post.length))) (fun s =>
    if wire then
      raise ⟨srcPort n, 0x2B, n + 1 + 32 * b2n current⟩ (setEvt 1 n (s.onPort n (fun p =>
        { p with
          classifying := false, post := [], opens := p.opens + 1
          latch := if current then .openI else .openV
          vOpen := p.vOpen || !current, iOpen := p.iOpen || current })))
    else
      raisePort n (tripKind p.latch) (s.onPort n (fun p => { p with classifying := false, post := [] }))) s)

/-! ### Rails (R480, R481) -/

/-- RAIL_DONE: the pair mean reaches the new rail's level, or RAIL_SETTLE ends a change to 5 V, which may be asked in any
power state. -/
def execRailDone (port : PortId) (s : State) : Res State :=
  let n := port.val
  let p := s.port n
  let v := pairSum p.v
  goOn (onlyIf (wardenRuns s n) (fun s =>
    match p.railBusy with
    | some (true, d) =>
      if p.st = .on && p.hvSel && decide (s.tick.now ≤ d) && (match v with | some x => decide (2 * pPgHv s n ≤ x) | none => false) then
        setEvt 6 n (s.onPort n (fun p => { p with rail := true, railBusy := none }))
      else s
    | some (false, d) =>
      if !p.hvSel && (decide (d ≤ s.tick.now) || (match v with | some x => decide (x < 2 * pOvp5 s n) | none => false)) then
        setEvt 6 n (s.onPort n (fun p => { p with rail := false, railBusy := none, ovpHv := false }))
      else s
    | none => s) s)

/-- PORT_RAIL_FAIL: HV_SELn falls, and the change goes on as for RAIL_5V. -/
def execPortRailFail (port : PortId) (s : State) : Res State :=
  let n := port.val
  let p := s.port n
  goOn (onlyIf (wardenRuns s n && p.st = .on) (fun s =>
    match p.railBusy with
    | some (true, d) =>
      if p.hvSel && decide (d ≤ s.tick.now) then
        raisePort n 0x30 (setEvt 7 n (s.onPort n (fun p =>
          { p with hvSel := false, railBusy := some (false, s.tick.now + pRailSettle s n) })))
      else s
    | _ => s) s)

end Sys2Proof.Machine
end

