-- ==== Sys2Proof/Machine/Power.lean ====
section
/-!
DEFINITION. The commands of the power states (chapter 3): the start of the furrows, QUIESCE, REST and waking, and
the seven steps of the controlled shutdown.
-/

namespace Sys2Proof.Machine

/-- No ledger entry is open. -/
def drained (s : State) : Bool := (openEntries s).isEmpty

def forTcs (f : Nat → State → State) (s : State) : State := forEach [0, 1, 2, 3] f s

/-! ### The furrows start (R108, R237, R262, R582) -/

/-- The D+ pull-up connects where VBUS is present. -/
def connectUp (s : State) : State :=
  s.onHub (fun h => if h.vbus then { h with pullup := true, speed := max 1 h.speed } else h)

/-- FURROWS_START: the first boundary of RUN. -/
def execFurrowsStart (s : State) : Res State :=
  goOn (onlyIf (s.pwr.pendRun && s.pwr.phase = .startup && !s.pwr.factory) (fun s =>
    let s1 := s.onPwr (fun p => { p with phase := .run, pendRun := false, started := true, wdogArmed := true, stopNew := false })
    let s2 := s1.onField (fun x => { x with counter := 0, testWait := x.fallow.isSome })
    let s3 := match s.cfg.step with
      | some st => applyStep st s2
      | none => applyMode (loadDevice s2)
    settleOpen (forTcs tcSync (connectUp s3))) s)

/-! ### QUIESCE (R114 to R116) -/

/-- QUIESCE_ENTER: the first boundary at which no entry is open, once no new operation is accepted. -/
def execQuiesceEnter (s : State) : Res State :=
  goOn (onlyIf (s.pwr.phase = .run && s.pwr.reqQuiesce && s.pwr.stopNew && drained s) (fun s =>
    repause (s.onPwr (fun p => { p with phase := .quiesce, reqQuiesce := false }))) s)

/-- QUIESCE_RESUME. A memory test under way stops with ABORTED (R588a). -/
def execQuiesceResume (s : State) : Res State :=
  goOn (onlyIf (s.pwr.resume && (s.pwr.phase = .quiesce || (s.pwr.phase = .run && s.pwr.reqQuiesce))) (fun s =>
    repause ((stopMemtest s).onPwr (fun p =>
      { p with phase := .run, reqQuiesce := false, resume := false, stopNew := false }))) s)

/-! ### REST (R117 to R121, R433, R635) -/

/-- The headgate is suspended and software lets the device rest. -/
def restAsked (s : State) : Bool :=
  s.pwr.phase = .run && s.hub.susp && s.pwr.restEn && !s.pwr.noRest && !s.pwr.reqQuiesce

/-- FREE_TRIM in units of CUR_TRIM (R61). -/
def freeTrimNow (t : Tick) : BitVec 16 := t.freeTrim.signExtend 16 * 8

/-- The tick generator in FREE (R27, R33). -/
def freeTick (t : Tick) : Tick :=
  { t with
    st := .free, curTrim := freeTrimNow t, stretch := none, pendSt := none, sofNow := none, sofNext := none
    decided := true, inWin := 0, missRun := 0, rangeTicks := 0 }

/-- REST_ENTER. An update that is loading or shadowing waits for its load tick again (R118). -/
def execRestEnter (s : State) : Res State :=
  goOn (onlyIf (restAsked s && drained s && s.tandPlot.isNone) (fun s =>
    let s1 := (abandonTest (abortShadow s)).onCfg (fun c => { c with load := none, pass := none })
    let s2 := (s1.onTWin (fun w => { w with rdy := false })).onUWin (fun w => { w with rdy := false })
    (((s2.onTick freeTick).onAdc (fun a => { a with zs := [], rs := [] })).onPwr (fun p =>
      { p with phase := .rest, wdogArmed := false, wake := false }))) s)

/-- REST_BLOCKED: 256 ticks after the suspend the ledger is not drained, or a TAND plot keeps the device in RUN. -/
def execRestBlocked (s : State) : Res State :=
  goOn (onlyIf (restAsked s && decide (s.hub.susAt + 256 ≤ s.tick.now) && (!drained s || s.tandPlot.isSome))
    (State.onStby (fun b => { b with restBlocked := true })) s)

/-- WAKE_EVENT. A hub wake condition stands until it is signalled upstream (R281, R282). -/
def execWakeEvent (why : WakeReason) (s : State) : Res State :=
  goOn (onlyIf (s.pwr.phase = .rest) (fun s =>
    let s1 := wakeUp s
    if why = .hubWake then s1.onHub (fun h => { h with wakeCond := true }) else s1) s)

/-- CRC passes start again at the first boundary of RUN (R228); the checking pass of a commit that was under way in REST
starts again from its first word (log 79). -/
def restartPass (s : State) : State :=
  (startPass (s.cfg.checking && !s.cfg.commitAt) s).onCfg (fun c => { c with touched := [] })

/-- REST_RESUME: the boundary at least 200 us after the wake event. The tick that ends there ran no work (R43). -/
def execRestResume (s : State) : Res State :=
  goOn (onlyIf (s.pwr.phase = .rest && s.pwr.wake && decide (s.pwr.wakeAt + 2 ≤ s.tick.now)) (fun s =>
    let s1 := s.onPlots (fun l => l.map (fun q => { q with lastUsed := 0, lastSpate := 0 }))
    let s2 := s1.onPwr (fun p =>
      { p with
        phase := .run, wake := false, wdogArmed := true, reqQuiesce := p.pendQuiesce, pendQuiesce := false
        pendStandby := false })
    if s.pwr.pendStandby then startShutdown s2 else restartPass s2) s)

/-! ### Controlled shutdown (R124, R125, R138, R140, R428, R535) -/

def inStep (k : Nat) (s : State) : Bool := s.pwr.phase = .shutdown && s.pwr.shutStep = k

/-- The boundary after the step began has come; with nothing started, a step completes at once. -/
def stepOver (s : State) : Bool := !s.pwr.started || decide (s.pwr.shutAt < s.tick.now)

/-- Step k has completed and the next begins. -/
def endStep (k : Nat) (s : State) : State :=
  (s.onStby (fun b => { b with shutSteps := b.shutSteps ||| BitVec.ofNat 7 (2 ^ (k - 1)) })).onPwr (fun p =>
    { p with shutStep := k + 1, shutAt := s.tick.now })

/-- SHUTDOWN_STOP. -/
def execShutdownStop (s : State) : Res State := goOn (onlyIf (inStep 1 s && stepOver s) (endStep 1) s)

/-- Every open entry is cancelled by where its operation stands. -/
def cancelAll (s : State) : State :=
  let s1 := cancelOps false (fun _ => true) s
  let s2 := cancelForwarded false (forEach (s1.hub.splits.filter (fun x => !x.closed)) cancelSplit s1)
  let held (i : Nat) : Bool := [0, 1, 2].any (fun c => (s2.culv c).ops.any (fun o => o.id = i && !o.closed))
  forEach ((openEntries s2).filter (fun e => !held e.1)) (fun e s =>
    if e.2.kind = .culvert || e.2.kind = .prefetch then unstage e.1 (closeLone (e.2.culv - 1) e.1 .cancelled s)
    else closeEntry e.1 .cancelled s) s2

/-- Step 3 begins: an OFF to every port; VCONN opens and Type-C issues no ON any more. -/
def portsOff (s : State) : State :=
  (s.onPorts (fun l => l.map (fun p => { p with reqs := p.reqs ++ [false] }))).onTcs (fun l =>
    l.map (fun q => { q with noGate := true, vconn := false }))

/-- SHUTDOWN_DRAIN. -/
def execShutdownDrain (s : State) : Res State :=
  goOn (onlyIf (inStep 2 s) (fun s =>
    let s1 := if !drained s && decide (s.pwr.shutAt + 256 ≤ s.tick.now) then cancelAll s else s
    if drained s1 then portsOff (endStep 2 s1) else s1) s)

/-- A HANDOVER frame is not yet acknowledged. -/
def handoverOpen (s : State) : Bool :=
  s.tand.unacked.any (fun f => f.2.2 = .handover) || s.tand.waiting.contains .handover

/-- Step 4 begins: C1 and the strings are let go, and a keeper with the link up hands over. -/
def busesOff (s : State) : State :=
  let s1 := forEach [1, 2] (fun c => State.onCulv c (fun k =>
    { k with ser := .idle, ops := k.ops.filter (fun o => !o.closed), chainNow := 0 })) (releaseC1 s)
  if s.tand.st = .keeper && s.tand.linkUp then sendFrame .handover s1 else s1

/-- SHUTDOWN_PORTS. A port that its warden has not turned off goes to DISCHARGE now; each one not OFF raises its event
(R125). -/
def execShutdownPorts (s : State) : Res State :=
  let busy := (List.range 16).filter (fun n => (s.port n).st ≠ .off)
  goOn (onlyIf (inStep 3 s && (busy.isEmpty || decide (s.pwr.shutAt + 800 ≤ s.tick.now))) (fun s =>
    busesOff (endStep 3 (forEach busy (fun n s => raisePort n 0x2F (dischargePort false n s)) s))) s)

/-- SHUTDOWN_BUSES: the boundary after the handover is acknowledged or 4 ticks have passed. -/
def execShutdownBuses (s : State) : Res State :=
  goOn (onlyIf (inStep 4 s && stepOver s && (!handoverOpen s || decide (s.pwr.shutAt + 5 ≤ s.tick.now))) (fun s =>
    (endStep 4 s).onHub (fun h => { h with pullup := false, speed := 0, susp := false, driveK := false })) s)

/-- SHUTDOWN_UPSTREAM: then the furrows stop, and every ball goes to its safe level. -/
def execShutdownUpstream (s : State) : Res State :=
  goOn (onlyIf (inStep 5 s && stepOver s) (fun s =>
    forTcs tcSync ((endStep 5 s).onPwr (fun p => { p with wdogArmed := false }))) s)

/-- SHUTDOWN_FIELD. -/
def execShutdownField (s : State) : Res State := goOn (onlyIf (inStep 6 s && stepOver s) (endStep 6) s)

/-- SHUTDOWN_STANDBY: device reset asserts, and STANDBY begins. -/
def execShutdownStandby (s : State) : Res State :=
  goOn (onlyIf (inStep 7 s) (fun s =>
    let s1 := (endStep 7 s).onStby (fun b => { b with incomplete := false })
    (resetParts (recordCause 6 (resetPulses false s1))).onPwr (fun p =>
      { p with phase := .standby, runRecorded := s.pwr.runRecorded })) s)

/-- STANDBY_RESTART: reset is released and start-up runs again from seeding. -/
def execStandbyRestart (s : State) : Res State :=
  goOn (onlyIf (s.pwr.phase = .standby && s.pwr.runRecorded)
    (fun s => tryRelease (s.onPwr (fun p => { p with runRecorded := false }))) s)

end Sys2Proof.Machine
end

