-- ==== Sys2Proof/Machine/RackFunction.lean ====
section
/-! DEFINITION. The commands of the rack function's endpoints (R283 to R293). -/

namespace Sys2Proof.Machine

/-- The index of an endpoint address in the endpoint table; none where the address names no buffered endpoint. -/
def epIndex (a : Byte) : Option Nat :=
  let e := a.toNat % 16
  let dirIn := a.getLsbD 7
  if a.toNat / 16 % 8 ≠ 0 then none
  else if e = 1 || e = 2 || e = 4 then some (if dirIn then e + 16 else e)
  else if dirIn && (e = 3 || decide (8 ≤ e)) then some (e + 16)
  else none

/-- Change an endpoint's ring to k parcels; released parcels are zero-filled (R293). -/
def carve (p e k : Nat) (s : State) : State :=
  (holdParcels p ((s.plot p).parcels.length - (s.ep e).k + k) s).onEp e (fun q => { q with k := k })

/-- The packets that the buffers of an endpoint hold: that of endpoint 3 which no ACK has answered, that of a stream
endpoint of which a tick has come, and of any other those queued. -/
def heldPackets (s : State) (e : Nat) : List (List W) :=
  if e = 19 then
    match s.hub.ringOut with
    | some o => [o.2]
    | none => []
  else if 24 ≤ e then
    match (s.cad (e - 24)).ticks.filter STick.here with
    | [] => []
    | t :: l => [ticksPacket (e - 24) false t l]
  else (s.ep e).pkts

/-- The endpoint holds data: packets in its buffers, or on their way into them (log 84). -/
def holdsData (s : State) (e : Nat) : Bool := !(heldPackets s e).isEmpty || !(s.ep e).wait.isEmpty

/-- SET_CARVE (R292). -/
def execSetCarve (epAddr k : Byte) (s : State) : Res State :=
  goOn (funcRequest (fun s =>
    match epIndex epAddr with
    | none => stall s
    | some e =>
      match s.funcPlot (e % 16) with
      | none => stall s
      | some p =>
        let old := (s.ep e).k
        let n := k.toNat
        if n = 1 || holdsData s e || decide (cParcelCap (s.plot p).wc p < (s.plot p).parcels.length - old + n)
            || decide (freeParcels s < n - old) then stall s
        else ack (carve p e n s)) s)

/-- GET_CARVE (R291). -/
def execGetCarve (epAddr : Byte) (s : State) : Res State :=
  goOn (funcRequest (fun s =>
    match epIndex epAddr with
    | none => stall s
    | some e =>
      let q := s.ep e
      let held := if q.k = 0 then 0 else parcelsHeld (heldPackets s e)
      answer .ack [] [lo8 q.k, lo8 held, if q.k = 0 then 0 else 1, 0] s) s)

/-- The oldest packet of an IN endpoint; it leaves its buffer when the transaction ends with ACK, and what waits for
room is work again. -/
def bulkIn (e : Nat) (ackd : Bool) (s : State) : State :=
  if (s.ep (e + 16)).halted then stall s
  else if !epServes s e then nak s
  else match (s.ep (e + 16)).pkts with
    | [] => nak s
    | k :: l =>
      answer .ack k [] (if ackd then
          (if (s.ep (e + 16)).wait.isEmpty then id else readyEp e) (s.onEp (e + 16) (fun q => { q with pkts := l }))
        else s)

/-- An IN of endpoint e by its kind: 1, 2 and 4 from their buffers, 3 from the event ring, 8 to 15 from their streams. An
endpoint the rack function does not have answers nothing. -/
def epIn (e : Nat) (ackd : Bool) (s : State) : State :=
  if e = 1 || e = 2 || e = 4 then bulkIn e ackd s
  else if e = 3 then ringIn ackd s
  else if 8 ≤ e then streamEndpoint (e - 8) s
  else answer .none [] [] s

/-- R288: the packet that was just answered held a poisoned word: it went once, with its CRC16 inverted, its data are
gone, and the endpoint is halted. -/
def spoilIn (e : Nat) (s : State) : State :=
  if s.usb.resp.hs = .ack && !s.usb.resp.words.isEmpty then
    (answer .badCrc s.usb.resp.words [] s).onEp (e + 16) (fun q => { q with halted := true })
  else s

/-- RACK_FUNCTION_IN. The buffers of the fixed mode are never poisoned. -/
def execRackFunctionIn (ep : Fin 16) (how : InRead) (s : State) : Res State :=
  let e := ep.val
  goOn (onlyIf (funcUp s) (fun s =>
    if how.poison && (s.ep (e + 16)).k ≠ 0 then spoilIn e (epIn e true s) else epIn e how.ack s) s)

end Sys2Proof.Machine
end

