-- ==== Sys2Proof/Machine/Registers.lean ====
section
/-!
DEFINITION. The commands of the register map: tally frames, windows, vendor requests, and the rows that name one
register or one word (chapters 3, 4, 5, 11, 12, 13 and 14). A row that names a field writes the register with its
other RW fields as they stand.
-/

namespace Sys2Proof.Machine

/-! ### Tally frames (R147 to R160, R188 to R197) -/

/-- TALLY_WRITE_FRAME; the command byte has its direction bit at 1. A frame with no clock is a null frame. -/
def execTallyWriteFrame (cmd : Byte) (data : W) (crc : Byte) (clocks : Nat) (s : State) : Res State :=
  goOn (onlyIf (clocked s && cmd.getLsbD 7) (if clocks = 0 then tallyFall else writeFrame cmd data crc clocks) s)

/-- TALLY_READ_FRAME; `crc` is the byte of the turnaround. -/
def execTallyReadFrame (cmd : Byte) (crc : Byte) (clocks : Nat) (s : State) : Res State :=
  goOn (onlyIf (clocked s && !cmd.getLsbD 7) (if clocks = 0 then tallyFall else readFrame cmd crc clocks) s)

/-- TALLY_NULL_FRAME: only its falling edge counts (R119, R190). -/
def execTallyNullFrame (s : State) : Res State := goOn (onlyIf (clocked s) tallyFall s)

/-- TALLY_FRAME_TIMEOUT (R188). -/
def execTallyFrameTimeout (s : State) : Res State :=
  goOn (onlyIf (clocked s) (fun s => finishTally .malformed (tallyFall s)) s)

/-- The frame of a held read of HW_MSG ends well: what it captured is removed, if it is still the oldest message. -/
def endHeldRead (s : State) : State :=
  finishTally .ok ((if s.tally.holdMsg then s.onHay (fun h => { h with queue := h.queue.drop 1 }) else s).onTally (fun t =>
    { t with hold := false, holdMsg := false }))

/-- HW_MSG_READ (R158 to R160, R207): the capture of a tally read fixes the value it returns and holds off the USB path;
its end removes that message. On the USB path the request waits while a tally read is held, and its message is returned
and removed when the data stage ends. -/
def execHwMsgRead (path : Path) (stage : ReadStage) (s : State) : Res State :=
  match path, stage with
  | .tally, .capture => goOn (onlyIf (clocked s) (fun s =>
      (tallyFall s).onTally (fun t =>
        { t with
          hold := true, holdMsg := !s.hay.queue.isEmpty
          tdo := readTdo (statusByte s) 0x1A s.tally.lcrc .ok (rHwMsg s) })) s)
  | .tally, .finish => goOn (onlyIf (clocked s && s.tally.hold) endHeldRead s)
  | .usb, .capture => goOn (vendor true (fun s => if s.tally.hold then nak s else s) s)
  | .usb, .finish => goOn (vendor true (usbReadReg 0x1A) s)

/-! ### The indirect window -/

/-- IWA_WRITE. -/
def execIwaWrite (path : Path) (addr : BitVec 24) (s : State) : Res State :=
  goOn (rowWrite path 0x04 (addr.setWidth 32) s)

/-- IWD_READ. -/
def execIwdRead (path : Path) (s : State) : Res State :=
  match path with
  | .tally => goOn (onlyIf (clocked s) (tallyRead 0x05 (readTdo (statusByte s) 0x05 s.tally.lcrc)) s)
  | .usb => goOn (vendor true (usbReadReg 0x05) s)

/-- IWD_WRITE. -/
def execIwdWrite (path : Path) (v : W) (s : State) : Res State := goOn (rowWrite path 0x05 v s)

/-- IWD_BUFFER_READY (R170, R171). -/
def execIwdBufferReady (path : Path) (s : State) : Res State := goOn (bufferReady path s)

/-- IWD_WRITE_DRAIN (R172). -/
def execIwdWriteDrain (path : Path) (s : State) : Res State := goOn (onlyIf (clocked s) (drainWrite path) s)

/-- REGISTER_WRITE. -/
def execRegisterWrite (path : Path) (idx : BitVec 7) (v : W) (s : State) : Res State :=
  goOn (rowWrite path idx.toNat v s)

/-! ### Vendor requests -/

/-- RD_REG. -/
def execRdReg (wValue wIndex wLength : BitVec 16) (s : State) : Res State :=
  goOn (vendor (wIndex = 0 && wLength = 4) (fun s =>
    if wValue.toNat ≤ 0x3F then usbReadReg wValue.toNat s else stall (finishUsb .unmapped false s)) s)

/-- WR_REG. -/
def execWrReg (wValue wIndex wLength : BitVec 16) (v : W) (s : State) : Res State :=
  goOn (vendor (wIndex = 0 && wLength = 4) (fun s =>
    if wValue.toNat ≤ 0x3F then usbWriteReg wValue.toNat v s else stall (finishUsb .unmapped false s)) s)

/-- The setup of an indirect request is well formed: n words, 1 to 16. -/
def indSetup (wIndex wLength : BitVec 16) : Bool :=
  wIndex.toNat < 256 && wLength.toNat % 4 = 0 && 4 ≤ wLength.toNat && wLength.toNat ≤ 64

/-- RD_IND. -/
def execRdInd (wValue wIndex wLength : BitVec 16) (s : State) : Res State :=
  goOn (vendor (indSetup wIndex wLength) (fun s =>
    match readWords (wLength.toNat / 4) .ok (loadIwa wValue wIndex s) with
    | some (l, o, t) => answer .ack l [] (finishUsb o false t)
    | none => stall (finishUsb .denied false s)) s)

/-- WR_IND: words before the first refused one are written. -/
def execWrInd (wValue wIndex wLength : BitVec 16) (ws : List W) (s : State) : Res State :=
  goOn (vendor (indSetup wIndex wLength && ws.length = wLength.toNat / 4) (fun s =>
    if s.uWin.wbuf.isSome then nak s
    else
      let s1 := loadIwa wValue wIndex s
      let r := writeWords ws .ok s1
      let same := r.2.uWin.iwa = s1.uWin.iwa && refusing r.1
      let wrote := changed s1 { r.2 with uWin := s1.uWin }
      if same then stall (finishUsb r.1 false { r.2 with uWin := s.uWin })
      else if refusing r.1 then stall (finishUsb r.1 wrote r.2)
      else ack (finishUsb r.1 wrote r.2)) s)

/-- UNSUPPORTED_VENDOR_REQUEST: a bRequest or a bmRequestType that the table of R178 does not list. -/
def execUnsupportedVendorRequest (_bRequest : Byte) (s : State) : Res State := goOn (onlyIf (usbUp s) stall s)

/-! ### Resets and power-state requests -/

/-- SOFT_RESET: a tally write of TCTL.SRST (R99). -/
def execSoftReset (key : BitVec 16) (s : State) : Res State :=
  goOn (rowWrite .tally 0x02 (mkW [(0, 1, b2n s.tally.lcrc), (16, 16, key.toNat)]) s)

/-- BLK_RST_WRITE (R132, R144, R168). -/
def execBlkRstWrite (path : Path) (v : W) (s : State) : Res State := goOn (rowWrite path 0x10 v s)

/-- A keyed request with the REST_EN of the same write. -/
def reqWord (req : Nat) (restEn : Bool) : W := mkW [(4, 3, req), (7, 1, b2n restEn), (16, 16, Config.key)]

/-- REQ_RUN (R140). -/
def execReqRun (path : Path) (restEn : Bool) (s : State) : Res State := goOn (rowWrite path 0x14 (reqWord 1 restEn) s)
/-- REQ_QUIESCE (R114, R140). -/
def execReqQuiesce (path : Path) (restEn : Bool) (s : State) : Res State :=
  goOn (rowWrite path 0x14 (reqWord 2 restEn) s)
/-- REQ_STANDBY (R124, R138, R140). -/
def execReqStandby (path : Path) (restEn : Bool) (s : State) : Res State :=
  goOn (rowWrite path 0x14 (reqWord 3 restEn) s)

/-! ### The seed store (R130, R211, R212) -/

def nvmWord (addr : BitVec 14) (cmd key : Nat) : W := mkW [(0, 14, addr.toNat), (14, 2, cmd), (16, 16, key)]

/-- NVM_READ. -/
def execNvmRead (path : Path) (addr : BitVec 14) (s : State) : Res State := goOn (rowWrite path 0x2C (nvmWord addr 3 0) s)
/-- NVM_WRITE. -/
def execNvmWrite (path : Path) (addr : BitVec 14) (s : State) : Res State :=
  goOn (rowWrite path 0x2C (nvmWord addr 1 Config.key) s)
/-- NVM_ERASE. -/
def execNvmErase (path : Path) (addr : BitVec 14) (s : State) : Res State :=
  goOn (rowWrite path 0x2C (nvmWord addr 2 Config.key) s)

/-- A pulse has ended: a device that runs shows it, a device held in reset may now be released. -/
def pulseEnded (s : State) : State :=
  if s.pwr.phase = .held || s.pwr.phase = .powerOn then tryRelease s else s

/-- The flags of a completed command; a device reset has cleared them. -/
def nvmDone (ok : Bool) (s : State) : State :=
  s.onNvm (fun n => { n with op := none, done := n.done || clocked s, err := n.err || (clocked s && !ok) })

/-- NVM_WRITE_DONE. A word that fails its verify is torn: a pulse whose rails kept their limits programs its word (R131). -/
def execNvmWriteDone (ok : Bool) (s : State) : Res State :=
  match s.nvm.op with
  | some (.write, a, v) =>
    let s1 := if ok then s.setSeed a ⟨v, .good⟩
      else (s.setSeed a ⟨v ||| Config.tornBits s.free, .double⟩).took
    goOn (pulseEnded (nvmDone ok s1))
  | _ => goOn s

/-- The words of a sector are erased. -/
def eraseSector (a : Nat) (s : State) : State :=
  s.onNvm (fun n => { n with store := n.store.filter (fun e => !(512 * (a / 512) ≤ e.1 && e.1 < 512 * (a / 512) + 512)) })

/-- NVM_ERASE_DONE. -/
def execNvmEraseDone (ok : Bool) (s : State) : Res State :=
  match s.nvm.op with
  | some (.erase, a, _) => goOn (nvmDone ok (if ok then eraseSector a s else cutSector a s))
  | _ => goOn s

/-! ### The field fuse (R603 to R605) -/

/-- FUSE_ARM. -/
def execFuseArm (path : Path) (key : BitVec 16) (s : State) : Res State :=
  goOn (rowWrite path 0x30 (mkW [(0, 4, 1), (16, 16, key.toNat)]) s)

/-- FUSE_ARM_EXPIRE. -/
def execFuseArmExpire (s : State) : Res State :=
  goOn (onlyIf (s.nvm.fArmed && !s.nvm.fBusy && decide (s.nvm.fArmedAt + 64 ≤ s.tick.now))
    (State.onNvm (fun n => { n with fArmed := false })) s)

/-- FUSE_BLOW. -/
def execFuseBlow (path : Path) (key : BitVec 16) (s : State) : Res State :=
  goOn (rowWrite path 0x30 (mkW [(0, 4, 2), (16, 16, key.toNat)]) s)

/-- FUSE_BLOW_DONE. -/
def execFuseBlowDone (blown : Bool) (s : State) : Res State :=
  goOn (onlyIf s.nvm.fBusy (fun s =>
    let s1 := s.onNvm (fun n =>
      { n with
        fBusy := false, fArmed := false, fCut := false, fBlown := n.fBlown || blown
        fFail := n.fFail || (clocked s && !blown) })
    pulseEnded (if blown then s1.onPwr (fun p => { p with factory := false }) else s1)) s)

/-! ### Configuration and fences (R202, R204, R230, R232, R243) -/

/-- CFG_OPEN. -/
def execCfgOpen (path : Path) (s : State) : Res State := goOn (rowWrite path 0x08 0x00000001 s)
/-- CFG_COMMIT. -/
def execCfgCommit (path : Path) (s : State) : Res State := goOn (rowWrite path 0x08 0x5EED0002 s)
/-- FENCE_ADD. -/
def execFenceAdd (path : Path) (plot : BitVec 6) (s : State) : Res State :=
  goOn (rowWrite path 0x0C (mkW [(0, 6, plot.toNat), (13, 3, 1)]) s)
/-- FENCE_CLEAR. -/
def execFenceClear (path : Path) (s : State) : Res State := goOn (rowWrite path 0x0C (mkW [(13, 3, 2)]) s)
/-- FENCE_REQUEST. -/
def execFenceRequest (path : Path) (s : State) : Res State := goOn (rowWrite path 0x0C (mkW [(13, 3, 3)]) s)
/-- PLOT_STATUS_CLR (R62, R64). -/
def execPlotStatusClr (path : Path) (p : PlotId) (s : State) : Res State :=
  goOn (rowInd path (0x8103 + 4 * p.val) 0x80000000 s)

/-! ### FALLOW_CTL (R213, R585, R590) -/

/-- HALT_WRITE. -/
def execHaltWrite (path : Path) (halt : Bool) (period : BitVec 5) (s : State) : Res State :=
  goOn (rowWrite path 0x28 (mkW [(0, 5, period.toNat), (5, 1, b2n halt)]) s)
/-- FORCE_TEST. -/
def execForceTest (path : Path) (f : FurrowId) (s : State) : Res State :=
  goOn (rowWrite path 0x28 (mkW [(0, 5, s.field.period.toNat), (5, 1, b2n s.field.halt), (8, 6, f.val), (14, 1, 1)]) s)
/-- MEMTEST_REQUEST. -/
def execMemtestRequest (path : Path) (s : State) : Res State :=
  goOn (rowWrite path 0x28 (mkW [(0, 5, s.field.period.toNat), (5, 1, b2n s.field.halt), (15, 1, 1)]) s)

/-! ### The Hayward's registers (R205, R208, R209, R565 to R569, R572) -/

/-- HW_QUEUE_CLEAR. -/
def execHwQueueClear (path : Path) (s : State) : Res State := goOn (rowWrite path 0x18 (hwCtlWord s true s.hay.injArm) s)
/-- INJ_ARM. -/
def execInjArm (path : Path) (on : Bool) (s : State) : Res State := goOn (rowWrite path 0x18 (hwCtlWord s false on) s)
/-- FAULT_HOLD_RELEASE. -/
def execFaultHoldRelease (path : Path) (s : State) : Res State := goOn (rowWrite path 0x1B 0x00010000 s)
/-- FAULT_FORCE. -/
def execFaultForce (path : Path) (on : Bool) (s : State) : Res State :=
  goOn (rowWrite path 0x1B (if on then 0x00020002 else 0x00020000) s)
/-- FAULT_MIN_RUN_END. -/
def execFaultMinRunEnd (s : State) : Res State :=
  goOn (onlyIf s.hay.minRun (State.onHay (fun h =>
    { h with minRun := false, hold := h.hold && !h.holdClr, holdClr := false })) s)
/-- SAFE_ENTER. -/
def execSafeEnter (path : Path) (key : BitVec 16) (s : State) : Res State :=
  goOn (rowWrite path 0x1C (mkW [(0, 4, 1), (16, 16, key.toNat)]) s)
/-- SAFE_RELEASE. -/
def execSafeRelease (path : Path) (key : BitVec 16) (s : State) : Res State :=
  goOn (rowWrite path 0x1C (mkW [(0, 4, 2), (16, 16, key.toNat)]) s)

/-! ### The port command word (R300, R468, R480, R481, R491, R496) -/

def portCmdAddr (n : PortId) : Nat := 0x20000 + 256 * n.val + 64

/-- PORT_USB_COUNTERS_CLR. -/
def execPortUsbCountersClr (path : Path) (port : PortId) (s : State) : Res State :=
  goOn (rowInd path (0x20000 + 256 * port.val + 196) 0x80000000 s)
/-- PORT_CMD_ON. -/
def execPortCmdOn (path : Path) (port : PortId) (s : State) : Res State := goOn (rowInd path (portCmdAddr port) 0x01 s)
/-- PORT_CMD_OFF. -/
def execPortCmdOff (path : Path) (port : PortId) (s : State) : Res State := goOn (rowInd path (portCmdAddr port) 0x02 s)
/-- FORCE_SET. -/
def execForceSet (path : Path) (port : PortId) (s : State) : Res State := goOn (rowInd path (portCmdAddr port) 0x04 s)
/-- FORCE_CLR. -/
def execForceClr (path : Path) (port : PortId) (s : State) : Res State := goOn (rowInd path (portCmdAddr port) 0x08 s)
/-- LATCH_CLR. -/
def execLatchClr (path : Path) (port : PortId) (s : State) : Res State := goOn (rowInd path (portCmdAddr port) 0x10 s)
/-- RAIL_HV. -/
def execRailHv (path : Path) (port : PortId) (s : State) : Res State := goOn (rowInd path (portCmdAddr port) 0x20 s)
/-- RAIL_5V. -/
def execRail5v (path : Path) (port : PortId) (s : State) : Res State := goOn (rowInd path (portCmdAddr port) 0x40 s)

/-! ### PD_CMD (R538) -/

def pdCmdAddr (t : TcId) : Nat := 0x40000 + 1024 * t.val + 2

/-- SEND. -/
def execSend (path : Path) (t : TcId) (s : State) : Res State := goOn (rowInd path (pdCmdAddr t) 1 s)
/-- HARD_RESET. -/
def execHardReset (path : Path) (t : TcId) (s : State) : Res State := goOn (rowInd path (pdCmdAddr t) 2 s)
/-- CABLE_RESET. -/
def execCableReset (path : Path) (t : TcId) (s : State) : Res State := goOn (rowInd path (pdCmdAddr t) 3 s)
/-- PD_CANCEL. -/
def execPdCancel (path : Path) (t : TcId) (s : State) : Res State := goOn (rowInd path (pdCmdAddr t) 4 s)
/-- RX_POP. -/
def execRxPop (path : Path) (t : TcId) (s : State) : Res State := goOn (rowInd path (pdCmdAddr t) 5 s)
/-- VCONN_ON. -/
def execVconnOn (path : Path) (t : TcId) (s : State) : Res State := goOn (rowInd path (pdCmdAddr t) 6 s)
/-- VCONN_OFF. -/
def execVconnOff (path : Path) (t : TcId) (s : State) : Res State := goOn (rowInd path (pdCmdAddr t) 7 s)
/-- RP. -/
def execRp (path : Path) (t : TcId) (level : BitVec 2) (s : State) : Res State :=
  goOn (rowInd path (pdCmdAddr t) (mkW [(0, 4, 8), (8, 2, level.toNat)]) s)
/-- AMS_END. -/
def execAmsEnd (path : Path) (t : TcId) (s : State) : Res State := goOn (rowInd path (pdCmdAddr t) 9 s)
/-- ERROR_RECOVERY. -/
def execErrorRecovery (path : Path) (t : TcId) (s : State) : Res State := goOn (rowInd path (pdCmdAddr t) 10 s)
/-- BIST_CARRIER. -/
def execBistCarrier (path : Path) (t : TcId) (s : State) : Res State := goOn (rowInd path (pdCmdAddr t) 11 s)
/-- RX_FLUSH. -/
def execRxFlush (path : Path) (t : TcId) (s : State) : Res State := goOn (rowInd path (pdCmdAddr t) 12 s)

end Sys2Proof.Machine
end

