-- ==== Sys2Proof/Machine/Splits.lean ====
section
/-! DEFINITION. The commands of the transaction translators (R271 to R279, R286 to R288). -/

namespace Sys2Proof.Machine

/-! ### TT requests (R263, R279) -/

/-- The ports a TT_port names: one in the multi-TT presentation, every port by 1 in the single-TT one. -/
def ttPorts (s : State) (n : Nat) : Option (List Nat) :=
  if s.hub.mtt then (if 1 ≤ n && n ≤ 16 then some [n - 1] else none)
  else if n = 1 then some (List.range 16) else none

/-- A TT request on the named ports; another TT_port is answered with STALL. -/
def ttRequest (n : Nat) (f : List Nat → State → State) (s : State) : State :=
  hubRequest (fun s => match ttPorts s n with
    | some l => ack (f l s)
    | none => stall s) s

/-- Cancel the open splits that meet `f`. -/
def cancelSplits (f : Split → Bool) (s : State) : State :=
  forEach (s.hub.splits.filter (fun x => !x.closed && f x)) cancelSplit s

/-- CLEAR_TT_BUFFER. -/
def execClearTtBuffer (ttPort : BitVec 16) (dev : BitVec 7) (ep : TtEndpoint) (s : State) : Res State :=
  goOn (ttRequest ttPort.toNat (fun l => cancelSplits (fun x =>
    l.contains x.port && !x.periodic && x.dev = dev.toNat && x.ep = ep.num.toNat && x.dirIn == ep.dirIn)) s)

/-- RESET_TT: the TT is back in its initial state at the next boundary. -/
def execResetTt (ttPort : BitVec 16) (s : State) : Res State :=
  goOn (ttRequest ttPort.toNat (fun l s =>
    (cancelSplits (fun x => l.contains x.port) s).onHub (fun h =>
      { h with ttReset := l.foldl (fun r n => insNat n r) h.ttReset })) s)

/-- STOP_TT. -/
def execStopTt (ttPort : BitVec 16) (s : State) : Res State :=
  goOn (ttRequest ttPort.toNat (fun l s => s.onHub (fun h =>
    { h with halted := l.foldl (fun r n => insNat n r) h.halted })) s)

/-- GET_TT_STATE. -/
def execGetTtState (s : State) : Res State := goOn (hubRequest stall s)

/-! ### Start-splits (R257, R272 to R274, R288) -/

/-- The headgate's claim on sluice A of the TT plot of port n waits (R328). -/
def ttWaits (s : State) (n : Nat) : Bool :=
  match s.ttPlot n with
  | some p => claimWaits s (2 * p) 0x40
  | none => false

/-- The TT of a port takes start-splits now (R114, R247, R271, R279, R289): a plot that is paused or fenced has its
interface run on. -/
def ttTakes (s : State) (n : Nat) : Bool :=
  optOpen s (s.ttPlot n) && accepting s && !ttWaits s n && !s.hub.halted.contains n && !s.hub.ttReset.contains n

/-- The two non-periodic buffers of a port are in use (R272). -/
def ttFull (s : State) (n : Nat) : Bool :=
  decide (2 ≤ (s.hub.splits.filter (fun x => x.port = n && !x.periodic && !x.closed)).length)

/-- A split that matches a port, device, endpoint and direction. -/
def splitIs (n dev ep : Nat) (dirIn : Bool) (x : Split) : Bool :=
  x.port = n && x.dev = dev && x.ep = ep && x.dirIn == dirIn

/-- A periodic start-split that was discarded: its complete-splits are answered ERR (R274). -/
def discarded (n dev ep : Nat) (dirIn : Bool) : Split := ⟨0x4000, n, dev, ep, dirIn, true, [], 0, false, none, true⟩

/-- The start-split is not taken: NAK, or discarded when periodic. -/
def refuseSplit (periodic : Bool) (n dev ep : Nat) (dirIn : Bool) (s : State) : State :=
  if periodic then answer .none [] [] (s.onHub (fun h => { h with splits := h.splits ++ [discarded n dev ep dirIn] }))
  else nak s

/-- TARGET of a split (R399). -/
def splitTarget (n dev ep : Nat) : BitVec 18 := BitVec.ofNat 18 (n + 1 + 32 * dev + 4096 * ep)

/-- The class of a split: periodic splits are Flow (R273). -/
def splitClass (s : State) (p n : Nat) (periodic : Bool) : TClass :=
  if periodic then .flow else ttNpClass (s.plot p).wc p n

/-- Open the entry of a split and make its work ready; a poisoned OUT payload is never sent (R288). -/
def openSplit (p n dev ep : Nat) (periodic dirIn : Bool) (out : List Byte) (poison : Bool) (id : Nat) (s : State) : State :=
  let cls := splitClass s p n periodic
  let x : Split := ⟨id, n, dev, ep, dirIn, periodic, if dirIn then [] else out, 0, false, none, false⟩
  let s1 := openEntry id { noEntry with
    cls := cls, kind := .split, owner := p, req := 0x40, target := splitTarget n dev ep
    limit := if periodic then 5 else ttNpTimeout s p } s
  let s2 := s1.onHub (fun h => { h with splits := h.splits ++ [x] })
  if poison && !dirIn then closeSplit x .poisoned s2 else readyItem p (classCode cls) id s2

/-- START_SPLIT. -/
def execStartSplit (port : PortId) (dev : BitVec 7) (ep : BitVec 4) (periodic dirIn : Bool) (out : OutData)
    (s : State) : Res State :=
  let n := port.val
  goOn (onlyIf (usbUp s && s.hub.speed = 2 && s.hub.configured) (fun s =>
    let s := s.onHub (fun h =>
      { h with splits := h.splits.filter (fun x => !(x.id = 0x4000 && splitIs n dev.toNat ep.toNat dirIn x)) })
    match s.ttPlot n with
    | none => refuseSplit periodic n dev.toNat ep.toNat dirIn s
    | some p =>
      if !ttTakes s n || (!periodic && ttFull s n) then refuseSplit periodic n dev.toNat ep.toNat dirIn s
      else match allocId s p (cLedgerCap (s.plot p).wc p) (splitClass s p n periodic) with
        | none => refuseSplit periodic n dev.toNat ep.toNat dirIn s
        | some id =>
          answer (if periodic then .none else .ack) [] []
            (openSplit p n dev.toNat ep.toNat periodic dirIn out.bytes out.poison id s)) s)

/-! ### Complete-splits (R273, R276, R277, R288) -/

/-- What a complete-split of a split with a result gets, handshake and data, and the close reason: what the device
answered, or its poisoned data with the CRC16 inverted, or the error of USB 2.0. -/
def splitAnswer (x : Split) (r : AttemptResult) : Hs × List Byte × Close :=
  match r with
  | .answered .ack => (.ack, [], .ok)
  | .answered .nak => (.nak, [], .ok)
  | .answered .stall => (.stall, [], .ok)
  | .answered (.data bs) => (.ack, bs, .ok)
  | .poisoned bs => (.badCrc, bs, .poisoned)
  | .noAnswer => (if x.periodic then .err else .stall, [], .errFar)

/-- Bytes a split has completed with a result (R399). -/
def splitDone (x : Split) (r : AttemptResult) : Nat :=
  match r with
  | .answered (.data bs) => bs.length
  | .answered .ack => x.out.length
  | _ => 0

/-- COMPLETE_SPLIT. A complete-split that matches nothing gets the response of USB 2.0 (log 15). -/
def execCompleteSplit (port : PortId) (dev : BitVec 7) (ep : BitVec 4) (dirIn : Bool) (s : State) : Res State :=
  let n := port.val
  goOn (onlyIf (usbUp s && s.hub.speed = 2 && s.hub.configured) (fun s =>
    match s.hub.splits.find? (fun x => splitIs n dev.toNat ep.toNat dirIn x && (!x.closed || x.id = 0x4000)) with
    | none => stall s
    | some x =>
      if x.closed then answer .err [] [] s
      else match x.result with
        | none => answer .nyet [] [] s
        | some r =>
          if (s.entry x.id).cls = .spate && decide (s.tick.now < (s.entry x.id).openAt + 2) then answer .nyet [] [] s
          else answer (splitAnswer x r).1 [] (splitAnswer x r).2.1 (closeSplit x (splitAnswer x r).2.2 s)) s)

/-! ### Attempts and timeouts (R275 to R278) -/

/-- Port n takes traffic, and the claim of its PHY on sluice A of plot Pp is not waiting (R266, R328). -/
def portTakes (s : State) (p n : Nat) : Bool := (s.hubPort n).st = .enabled && !claimWaits s (2 * p) (0x41 + n)

/-- An item of plot Pp puts an attempt of a split onto the downstream bus; where the port takes none now, the split
waits for a later item. -/
def splitOnWire (p : Nat) (i : Item) (s : State) : State :=
  match s.hub.splits.find? (fun x => x.id = i.ref && !x.closed && !x.onWire && x.result.isNone) with
  | none => s
  | some x =>
    if !portTakes s p x.port then readyItem p i.kind i.ref s
    else
      let s1 := s.onHub (fun h => { h with splits := h.splits.map (fun y =>
        if y.id = i.ref && !y.closed then { y with onWire := true, attempts := y.attempts + 1 } else y) })
      let s2 := if x.attempts = 0 then s1
        else s1.onHubPort x.port (fun h => { h with retries := satInc h.retries 65535 })
      (emitted i.ref s2).onEntry i.ref (fun e => { e with attempts := x.attempts + 1 })

/-- SPLIT_ATTEMPT_END. -/
def execSplitAttemptEnd (id : BitVec 14) (res : AttemptResult) (s : State) : Res State :=
  let i := id.toNat
  match s.hub.splits.find? (fun x => x.id = i && x.onWire) with
  | none => goOn s
  | some x =>
    if x.closed then
      goOn (s.onHub (fun h => { h with splits := h.splits.filter (fun y => !(y.id = i && y.onWire)) }))
    else
      let again := res = .noAnswer && !x.periodic && decide (x.attempts < 3)
      let s1 := (s.onHub (fun h => { h with splits := h.splits.map (fun y =>
        if y.id = i && y.onWire then { y with onWire := false, result := if again then none else some res } else y) })).onEntry i
          (fun e => { e with done := splitDone x res })
      goOn (if again then readyItem (s.entry i).owner (classCode (s.entry i).cls) i s1 else s1)

/-- Close a split whose time has run out. -/
def splitTimeoutOf (periodic : Bool) (i : Nat) (s : State) : State :=
  match s.hub.splits.find? (fun x => x.id = i && !x.closed && x.periodic == periodic) with
  | some x => onlyIf (timedOut s (s.entry i)) (closeSplit x .timeout) s
  | none => s

/-- SPLIT_TIMEOUT. -/
def execSplitTimeout (id : BitVec 14) (s : State) : Res State := goOn (splitTimeoutOf false id.toNat s)

/-- PERIODIC_SPLIT_TIMEOUT. -/
def execPeriodicSplitTimeout (id : BitVec 14) (s : State) : Res State := goOn (splitTimeoutOf true id.toNat s)

end Sys2Proof.Machine
end

