-- ==== Sys2Proof/Machine/Tandem.lean ====
section
/-!
DEFINITION. The commands of the tandem pair (chapter 9): frames in sequence, the roles, mirroring, forwarding,
takeover, self-fence and the HB wire.
-/

namespace Sys2Proof.Machine

/-! ### Events (R435, R542) -/

/-- Set a flag of word 521 and raise the kind from the TAND plot. -/
def tandEvent (flag kind addr : Nat) (s : State) : State :=
  let s1 := s.onTand (fun t => { t with evt := t.evt ||| BitVec.ofNat 8 flag })
  match s.tandPlot with
  | some p => raisePlot p kind addr s1
  | none => s1

/-- The TAND plot takes frames and pulses; the serialiser is not held in reset (R132, R133). -/
def tandHears (s : State) : Bool := s.tand.st ≠ .off && fieldRuns s && !s.pwr.blkHeld.getLsbD 7

/-! ### Sequenced frames (R409, R410) -/

/-- TAND_FRAME_INVALID (R407, R432). -/
def badTandFrame (s : State) : State := tandEvent 0 0x23 0 (s.onTand (fun t => { t with crcErr := t.crcErr + 1 }))

def execTandFrameInvalid (s : State) : Res State := goOn (onlyIf (tandHears s) badTandFrame s)

/-- Words that are one request, or that begin with a header which holds a reserved value (R418). -/
def oneReq (ws : List W) : Bool :=
  match parseReqs (ws.length + 1) ws with
  | ([_], none, []) => true
  | ([], some _, _) => true
  | _ => false

/-- LEN fits the type (R408). -/
def lenFits (type : Nat) (ws : List W) : Bool :=
  decide (ws.length ≤ 128) && (match type with
    | 1 => ws.length = 2
    | 2 => ws.length % 2 = 0 && decide (2 ≤ ws.length)
    | 3 => oneReq (ws.drop 1) && !ws.isEmpty
    | 4 => decide (3 ≤ ws.length)
    | 6 | 7 => ws.length = 1
    | _ => ws.isEmpty)

/-- A frame of a type is valid (R407). -/
def linkValid (s : State) (type : Nat) (x : TLink) : Bool :=
  linkSound type x && lenFits type x.payload
    && (type ≠ 1 || (match s.tandPlot with | some p => (x.payload.headD 0).bits 31 16 = tandPairId s p | none => false))

/-- A frame of a type arrives: an invalid one is counted and discarded. -/
def hearLink (type : Nat) (x : TLink) (f : State → State) (s : State) : State :=
  onlyIf (tandHears s) (fun s => if linkValid s type x then f s else badTandFrame s) s

/-- Frames up to `ack` are acknowledged, and frames that waited go out. -/
def takeAck (ack : BitVec 16) (s : State) : State :=
  sendWaiting s.tand.waiting (s.onTand (fun t =>
    { t with unacked := t.unacked.filter (fun f => 0x8000 ≤ (ack - f.1).toNat) }))

/-- A sequenced frame: accepted in order, or discarded with a TAND_SEQ event (R432). -/
def hearFrame (type : Nat) (x : TLink) (f : State → State) (s : State) : State :=
  hearLink type x (fun s =>
    let seq := x.head.seq
    let s1 := takeAck x.head.ack (s.onTand (fun t => { t with linkSilent := 0 }))
    if !s.tand.rxAny || seq = s.tand.rxSeq + 1 then f (s1.onTand (fun t => { t with rxSeq := seq, rxAny := true }))
    else
      let again := (s.tand.rxSeq - seq).toNat < 0x8000
      tandEvent 0 0x24 seq.toNat (s1.onTand (fun t => { t with dups := if again then t.dups + 1 else t.dups }))) s

/-- TAND_RESEND: the oldest frame has waited 4 ticks, and every frame is sent again. -/
def execTandResend (s : State) : Res State :=
  match s.tand.unacked with
  | [] => goOn s
  | f :: _ => goOn (onlyIf (tandHears s && linkSends s && decide (f.2.1 + 4 ≤ s.tick.now)) resendFrames s)

/-! ### Mirror records of the keeper (R416, R417, R429) -/

/-- The record of an open C1 entry. -/
def entryRec (s : State) (i : Nat) (e : Entry) : W × W :=
  let own := match s.culvs.c1.ops.find? (fun o => o.id = i) with
    | some o => if e.req = 0x59 then o.fwdId - 1 else i
    | none => i
  (mkW [(2, 2, b2n e.emitted), (4, 1, b2n (e.req = 0x59)), (5, 2, classCode e.cls), (8, 8, e.tag), (16, 14, own)],
    mkW [(0, 15, e.target.toNat), (16, 7, e.done)])

/-- The record of a held C1 semaphore. -/
def semRec (x : Nat) (m : Sem) : W × W :=
  (mkW [(0, 2, 1), (2, 2, 1), (4, 1, b2n m.partner), (8, 3, x)], mkW [(0, 15, m.base), (15, 13, m.len1)])

/-- Everything the mirror should hold now. -/
def recsNow (s : State) : List (W × W) :=
  ((openEntries s).filter (fun e => e.2.culv = 1 && (e.2.kind = .culvert || e.2.kind = .prefetch))).map
      (fun e => entryRec s e.1 e.2) ++ s.culvs.c1.sems.map (fun e => semRec e.1 e.2)

/-- Which entry or semaphore a record is about. -/
def recKey (w : W) : Nat := if w.bits 1 0 = 1 then w.bits 10 8 else 8 + w.bits 29 16 + 0x4000 * w.bits 4 4

/-- The closing record of one that is gone: STATE 2 for an entry, 0 for a semaphore. -/
def recGone (r : W × W) : W × W :=
  ((r.1 &&& ~~~(0xC : W)) ||| (if r.1.bits 1 0 = 1 then 0 else 8), r.2)

def recChanges (was now : List (W × W)) : List (W × W) :=
  now.filter (fun r => !was.contains r)
    ++ (was.filter (fun r => !now.any (fun x => recKey x.1 = recKey r.1))).map recGone

/-- MIRROR frames of at most 64 records. -/
def sendRecs : Nat → List (W × W) → State → State
  | 0, _, s => s
  | fuel + 1, l, s => if l.isEmpty then s else sendRecs fuel (l.drop 64) (sendFrame (.mirror (l.take 64)) s)

/-- The keeper sends what changed since it last sent. -/
def sendMirror (s : State) : State :=
  if s.tand.st = .keeper && s.tand.linkUp && (s.tand.mirrored || s.tand.syncing) then
    let now := recsNow s
    let l := recChanges s.tand.sent now
    (sendRecs (l.length + 1) l s).onTand (fun t => { t with sent := now })
  else s

/-- The keeper starts from SYNC_BEGIN. -/
def startSync (s : State) : State :=
  let l := recsNow s
  let s1 := sendFrame .syncBegin (s.onTand (fun t =>
    { t with syncing := true, mirrored := false, sent := l, syncTx := l.length }))
  sendFrame (.syncEnd l.length) (sendRecs (l.length + 1) l s1)

/-- The link is up between KEEPER and FOLLOWER, and nothing is mirrored yet. -/
def trySync (s : State) : State :=
  if s.tand.st = .keeper && s.tand.linkUp && s.tand.partnerRole = 1 && !s.tand.mirrored && !s.tand.syncing then startSync s
  else s

/-! ### The follower's mirror (R416, R429) -/

/-- The close reason with a code (R345); 7, REJECTED, is none, and the code 0 to 6 of its place is open (log 3). -/
def closeOfCode : Nat → Close
  | 0 => .ok
  | 1 => .errFar
  | 2 => .timeout
  | 3 => .cancelled
  | 4 => .cancelledLate
  | 5 => .errUncertain
  | _ => .poisoned

/-- The ledger entry of a mirrored one closes; the keeper's reason is not sent: a free value of 0 to 6. -/
def closeMirrored (m : MEntry) (s : State) : State :=
  match m.lid with
  | some i => (closeEntry i (closeOfCode ((Config.mirrorClose s.free).toNat % 7)) s).took
  | none => s

/-- A new mirrored entry, under a ledger entry of KIND 3 where an ID is free. -/
def addMirrored (w0 w1 : W) (s : State) : State :=
  let m (lid : Option Nat) : MEntry := ⟨w0.bits 29 16, lid, w0.bit 4, w0.bits 3 2 = 1, w0, w1⟩
  let put (lid : Option Nat) (s : State) : State := s.onTand (fun t => { t with mirror := t.mirror ++ [m lid] })
  match s.tandPlot, nextOrdinary s with
  | some p, some i =>
    let e : Entry := { noEntry with
      cls := (classOf (w0.bits 6 5)).getD .seep, kind := .mirrored, owner := p, req := 0x59, culv := 1, tag := w0.bits 15 8
      target := BitVec.ofNat 18 (farAddr 0 (w1.bits 14 0)), done := w1.bits 22 16, emitted := w0.bits 3 2 = 1 }
    put (some i) (openEntry i e s)
  | _, _ => put none s

/-- One record at the follower. -/
def takeRec (r : W × W) (s : State) : State :=
  let k := recKey r.1
  if r.1.bits 1 0 = 1 then
    let x := r.1.bits 10 8
    s.onTand (fun t =>
      { t with
        msems := (t.msems.filter (fun e => e.1 < x)) ++
          (if r.1.bits 3 2 = 1 then
            [(x, (⟨0x59, 0, s.tick.now, r.2.bits 14 0, r.2.bits 27 15, r.1.bit 4⟩ : Sem))] else []) ++
          (t.msems.filter (fun e => x < e.1)) })
  else match s.tand.mirror.find? (fun m => recKey m.w0 = k) with
    | some m =>
      if r.1.bits 3 2 = 2 then
        closeMirrored m (s.onTand (fun t => { t with mirror := t.mirror.filter (fun m => recKey m.w0 ≠ k) }))
      else
        let s1 := s.onTand (fun t => { t with mirror := t.mirror.map (fun m =>
          if recKey m.w0 = k then { m with w0 := r.1, w1 := r.2, issued := r.1.bits 3 2 = 1 } else m) })
        match m.lid with
        | some i => s1.onEntry i (fun e =>
            if e.opn then { e with done := r.2.bits 22 16, emitted := e.emitted || r.1.bits 3 2 = 1 } else e)
        | none => s1
    | none => if r.1.bits 3 2 = 2 then s else addMirrored r.1 r.2 s

/-- The records of a MIRROR frame. -/
def recPairs : List W → List (W × W)
  | a :: b :: l => (a, b) :: recPairs l
  | _ => []

/-- TAND_MIRROR_RECEIVED. -/
def execTandMirrorReceived (head : LinkHead) (payload : List W) (crc : BitVec 16) (s : State) : Res State :=
  goOn (hearFrame 2 ⟨head, payload, crc⟩ (fun s => onlyIf (s.tand.st = .follower) (fun s =>
    let recs := recPairs payload
    (forEach recs takeRec s).onTand (fun t => { t with syncRx := t.syncRx + recs.length })) s) s)

/-- SYNC_BEGIN. -/
def execSyncBegin (head : LinkHead) (crc : BitVec 16) (s : State) : Res State :=
  goOn (hearFrame 5 ⟨head, [], crc⟩ (fun s => onlyIf (s.tand.st = .follower) (fun s =>
    (forEach s.tand.mirror closeMirrored s).onTand (fun t =>
      { t with mirror := [], msems := [], syncRx := 0, mirrored := false })) s) s)

/-- SYNC_END: the count received goes back; when it matches, forwarding resumes. -/
def execSyncEnd (head : LinkHead) (n : W) (crc : BitVec 16) (s : State) : Res State :=
  goOn (hearFrame 6 ⟨head, [n], crc⟩ (fun s => onlyIf (s.tand.st = .follower) (fun s =>
    sendFrame (.syncAck s.tand.syncRx) (s.onTand (fun t =>
      { t with mirrored := decide (n.toNat = t.syncRx) }))) s) s)

/-- SYNC_ACK. -/
def execSyncAck (head : LinkHead) (n : W) (crc : BitVec 16) (s : State) : Res State :=
  goOn (hearFrame 7 ⟨head, [n], crc⟩ (fun s => onlyIf (s.tand.st = .keeper && s.tand.syncing) (fun s =>
    if n.toNat = s.tand.syncTx then
      tandEvent 2 0x1D 0 (s.onTand (fun t => { t with mirrored := true, syncing := false }))
    else startSync s) s) s)

/-- HANDOVER. -/
def execHandover (head : LinkHead) (crc : BitVec 16) (s : State) : Res State :=
  goOn (hearFrame 8 ⟨head, [], crc⟩ (fun s => onlyIf (s.tand.st = .follower) (State.onTand (fun t =>
    { t with handoverRx := true, evt := t.evt ||| 0x40 })) s) s)

/-! ### Forwarded requests at the keeper (R418, R420, R432) -/

/-- The one request of a frame, or the header that holds a reserved value. -/
def frameReq (ws : List W) : Option Req × Option Req :=
  let t := parseReqs (ws.length + 1) ws
  (t.1.head?, t.2.1)

/-- The asker of a forwarded request: the TAND plot holds the entry, peer 0x59 asks, in the class of its endpoint. -/
def partnerAsker (p id : Nat) (cls : TClass) : Asker := ⟨p, 0x59, if cls = .spate then 2 else 1, cls, id + 1, false⟩

/-- The requests at the front that belong together: a locked chain ends at the first request without LOCK. -/
def frontGroup : List (Nat × TClass × Req) → List (Nat × TClass × Req)
  | [] => []
  | x :: l => if x.2.2.lock then x :: frontGroup l else [x]

/-- Take the partner's requests that wait, oldest first, while operations are accepted and IDs are free. -/
def drainRx : Nat → State → State
  | 0, s => s
  | fuel + 1, s =>
    let l := s.tand.rxWait.filterMap (fun x => (frameReq x.2.2).1.map (fun r => (x.1, x.2.1, r)))
    let g := frontGroup l
    match s.tandPlot with
    | none => s
    | some p =>
      if !accepting s || g.isEmpty || ((g.getLast?.map (fun x => x.2.2.lock)).getD true) then s
      else
        match takeGroup (g.map (fun x => (partnerAsker p x.1 x.2.1, x.2.2)))
            (s.onTand (fun t => { t with rxWait := t.rxWait.drop g.length })) with
        | some s1 => drainRx fuel s1
        | none => s

/-- FWD_REQ. -/
def execFwdReq (cls : TClass) (head : LinkHead) (idWord : W) (ws : List W) (crc : BitVec 16) (s : State) : Res State :=
  let id := idWord.bits 13 0
  goOn (hearFrame 3 ⟨head, idWord :: ws, crc⟩ (fun s =>
    match s.tandPlot with
    | none => s
    | some p =>
      let a := partnerAsker p id cls
      match frameReq ws with
      | (some r, _) =>
        if s.tand.st ≠ .keeper || isSevere s (srcPlot p) then reject a 2 r s
        else drainRx (s.tand.rxWait.length + 1) (s.onTand (fun t => { t with rxWait := t.rxWait ++ [(id, cls, ws)] }))
      | (none, some r) => reject a 1 r s
      | (none, none) => s) s)

/-! ### Results at the follower (R418, R419, R421) -/

/-- A forwarded operation closes with its result: entry, counters, flag, event and the host's result. One that the keeper
rejected raises no event (R352), and the reason its entry shows is open (log 81). -/
def closeForwarded (id ep status : Nat) (ws : List W) (s : State) : State :=
  let s1 := if status ≤ 6 then closeLone 0 id (closeOfCode status) s
    else
      let r := closeOfCode ((Config.rejectClose s.free).toNat % 7)
      (if (s.entry id).opn then countClose 0 r (closeEntry id r s) else s).took
  pushIn ep ws (s1.onTand (fun t => { t with fwd := t.fwd.filter (fun f => f.1 ≠ id) }))

/-- The semaphore a served request took or gave back. -/
def noteHeld (ep : Nat) (words ws : List W) (h : List (Nat × Nat)) : List (Nat × Nat) :=
  let w := ws.headD 0
  let x := (words.getD 1 0).bits 18 16
  if w.bits 19 16 ≠ 0 then h
  else if w.bits 12 10 = 4 then h.filter (fun e => e.1 ≠ x) ++ [(x, ep)]
  else if w.bits 12 10 = 5 then h.filter (fun e => e.1 ≠ x)
  else h

/-- FWD_RES: the host's result names the follower's own entry. -/
def execFwdRes (head : LinkHead) (idWord : W) (ws : List W) (crc : BitVec 16) (s : State) : Res State :=
  let id := idWord.bits 13 0
  goOn (hearFrame 4 ⟨head, idWord :: ws, crc⟩ (fun s =>
    let w0 := ws.headD 0
    let w1 := ws.getD 1 0
    if w0.bits 12 10 ≤ 3 then
      match s.tand.fwd.find? (fun f => f.1 = id) with
      | some f =>
        let s1 := s.onEntry id (fun e => { e with attempts := w0.bits 25 24, done := w1.bits 31 16 })
        closeForwarded id f.2.2 (w0.bits 19 16)
          (w0 :: mkW [(0, 14, id), (16, 16, w1.bits 31 16)] :: ws.drop 2) s1
      | none => s
    else
      match s.tand.fwd.find? (fun f => f.1 = noId && (f.2.1.headD 0).bits 7 0 = w0.bits 7 0
          && (f.2.1.headD 0).bits 12 10 = w0.bits 12 10) with
      | some f => pushIn f.2.2 ws (s.onTand (fun t =>
          { t with fwd := t.fwd.erase f, held := noteHeld f.2.2 f.2.1 ws t.held }))
      | none => s) s)

/-! ### The link (R415, R421, R422) -/

/-- TAND_LINK_UP. -/
def execTandLinkUp (s : State) : Res State :=
  goOn (onlyIf (tandHears s && !s.tand.linkUp && decide (4 ≤ s.tand.beatRun)) (fun s =>
    trySync (s.onTand (fun t => { t with linkUp := true }))) s)

/-- R421: every forwarded operation that was sent closes ERR_UNCERTAIN, DETAIL 6. -/
def loseSent (s : State) : State :=
  (forEach (s.tand.fwd.filter (fun f => f.1 < noId)) (fun f => closeFwd false f.1 .errUncertain 6) s).onTand
    (fun t => { t with fwd := [] })

/-- R422: forwarded operations not on the wire close CANCELLED, results are dropped, semaphores released. -/
def losePartner (s : State) : State :=
  let s1 := s.onCulv 0 (fun k => { k with ops := k.ops.map (fun o => if o.req = 0x59 then { o with mute := true } else o) })
  let s2 := forEach (s1.culvs.c1.ops.filter (fun o => o.req = 0x59 && o.stat = .waiting && !o.closed))
    (fun o s => closeOp 0 o .cancelled 0 0 false s) s1
  (freeSems Sem.partner 0 s2).onTand (fun t => { t with rxWait := [] })

/-- TAND_LINK_LOST. -/
def execTandLinkLost (s : State) : Res State :=
  goOn (onlyIf (tandHears s && s.tand.linkUp && decide (8 ≤ s.tand.linkSilent)) (fun s =>
    let s1 := s.onTand (fun t => { t with linkUp := false, mirrored := false, syncing := false, beatRun := 0 })
    let s2 := match s.tand.st with
      | .follower => loseSent s1
      | .keeper => losePartner s1
      | _ => s1
    tandEvent 1 0x1C 0 s2) s)

/-! ### Two keepers (R431) -/

/-- A keeper has found a second one. The partner's INIT_ROLE is in no frame: whether it is the same is a free value. -/
def foundKeeper (s : State) : State :=
  match s.tand.st, s.tandPlot with
  | .keeper, some p =>
    let s1 := (tandEvent 0x10 0x20 0 s).took
    if Config.partnerSame s.free then tandEvent 0x80 0x21 0 (selfFence s1)
    else if tandInitKeeper s p then s1
    else selfFence s1
  | _, _ => s

/-! ### BEAT frames and the HB wire (R408, R411 to R415) -/

/-- In shutdown step 4 only a keeper whose HANDOVER is not acknowledged still beats, for 4 ticks; from step 5 on
nothing is sent (R428). -/
def beatsNow (s : State) : Bool :=
  s.pwr.phase ≠ .shutdown || decide (s.pwr.shutStep < 4)
    || (s.pwr.shutStep = 4 && s.tand.st = .keeper && handoverOpen s && decide (s.tick.now < s.pwr.shutAt + 4))

/-- The beat item of plot Pp is under way (R411, R640). -/
def beatRuns (s : State) (p : Nat) : Bool :=
  plotRuns s p && (match (s.plot p).running with | some r => r.item.kind = 0 | none => false)

/-- BEAT_ITEM: the beat item sends a BEAT frame; a keeper's also pulls HB low. Once a tick. -/
def execBeatItem (s : State) : Res State :=
  match s.tandPlot with
  | none => goOn s
  | some p => goOn (onlyIf (tandHears s && beatRuns s p && beatsNow s && !s.tand.beatSent)
      (fun s => s.onTand (fun t =>
        { t with beatSent := true, txOut := t.txOut ++ [beatFrame s p], hbPulse := t.st = .keeper })) s)

/-- TAND_BEAT_RECEIVED. -/
def execTandBeatReceived (head : LinkHead) (pairWord tickWord : W) (crc : BitVec 16) (s : State) : Res State :=
  let role := head.flags.toNat % 4
  goOn (hearLink 1 ⟨head, [pairWord, tickWord], crc⟩ (fun s =>
    let s1 := takeAck head.ack (s.onTand (fun t =>
      { t with
        linkSilent := 0, beatTick := true, partnerRole := role, heardKeeper := t.heardKeeper || role = 2 }))
    trySync (if role = 2 then foundKeeper s1 else s1)) s)

/-- HB_PULSE. -/
def execHbPulse (s : State) : Res State :=
  goOn (onlyIf (tandHears s) (fun s => foundKeeper (s.onTand (fun t => { t with hbSilent := 0, heardKeeper := true }))) s)

/-- HB_STUCK. -/
def execHbStuck (s : State) : Res State := goOn (onlyIf (tandHears s) (tandEvent 0x20 0x22 0) s)

/-! ### Roles (R414, R423 to R427) -/

/-- The device becomes keeper. -/
def becomeKeeper (s : State) : State :=
  trySync (s.onTand (fun t =>
    { t with st := .keeper, beatMiss := 0, beatSent := false, mirrored := false, syncing := false, handoverRx := false }))

/-- TAND_LISTEN_END. -/
def execTandListenEnd (s : State) : Res State :=
  match s.tandPlot with
  | none => goOn s
  | some p => goOn (onlyIf (tandHears s && s.tand.st = .listen) (fun s =>
      let follow (s : State) : State := s.onTand (fun t => { t with st := .follower })
      if !tandInitKeeper s p || s.tand.heardKeeper then follow s
      else if s.tand.startAt + 40 ≤ s.tick.now then becomeKeeper s
      else s) s)

/-- R424: a mirrored entry is resolved, without an event of its own. -/
def resolveEntry (m : MEntry) (s : State) : State :=
  match m.lid with
  | some i => closeEntry i (if m.issued then .errUncertain else .cancelled) s
  | none => s

/-- R424: a semaphore held by one of this device's requesters is held here as before. -/
def resolveSem (e : Nat × Sem) (s : State) : State :=
  if e.2.partner then
    let ep := match s.tand.held.find? (fun h => h.1 = e.1) with
      | some h => h.2
      | none => 1
    let own := (s.funcPlot ep).getD 63
    s.onCulv 0 (fun k => { k with sems := (k.sems.filter (fun x => x.1 < e.1)) ++
      (e.1, (⟨own, ep, e.2.since, e.2.base, e.2.len1, false⟩ : Sem)) :: (k.sems.filter (fun x => e.1 < x.1)) })
  else s

/-- R425: a group of requests that waited unsent is taken here; operations keep the entries they have. Of what no host
waits for, a SEM_REL frees the semaphore here, and a CANCEL has nothing left to cancel. -/
def adoptGroup (g : List (Nat × TClass × Req)) (s : State) : State :=
  let n := if isChain (g.map (fun x => x.2.2)) then s.culvs.chains + 1 else 0
  forEach g (fun x s =>
    let ep := if x.2.1 = .spate then 2 else 1
    let own := if x.1 < noId then (s.entry x.1).owner else (s.funcPlot ep).getD 63
    let a : Asker := ⟨own, own, ep, x.2.1, 0, false⟩
    if x.1 < noId then
      let o := mkOp (kHighFirst s) a x.2.2 n x.1
      let s1 := readyWork (s.culvPlot 0) (classCode o.cls) o.id (s.onCulv 0 (fun k => { k with ops := k.ops ++ [o] }))
      if spoilsBuf o then touchQuiet (opRange o).1 (opRange o).2 s1 else s1
    else if x.1 = noHost then
      (if x.2.2.op = 5 then s.onCulv 0 (fun k => { k with sems := k.sems.filter (fun e => e.1 ≠ rSem x.2.2) }) else s)
    else (takeReq a x.2.2 s).getD s) (s.onCulvs (fun k => { k with chains := max k.chains n }))

def adoptAll : Nat → List (Nat × TClass × Req) → State → State
  | 0, _, s => s
  | fuel + 1, l, s =>
    let g := frontGroup l
    if g.isEmpty then s else adoptAll fuel (l.drop g.length) (adoptGroup g s)

/-- TAND_TAKEOVER. -/
def execTandTakeover (s : State) : Res State :=
  goOn (onlyIf (tandHears s && s.tand.st = .follower
      && (s.tand.handoverRx || (!s.tand.linkUp && decide (32 ≤ s.tand.hbSilent)))) (fun s =>
    let s1 := forEach s.tand.msems resolveSem (forEach s.tand.mirror resolveEntry s)
    let l := s.tand.toSend.filterMap (fun x => (frameReq x.2.2).1.map (fun r => (x.1, x.2.1, r)))
    let s2 := becomeKeeper (s1.onTand (fun t =>
      { t with mirror := [], msems := [], held := [], toSend := [], takeovers := t.takeovers + 1 }))
    adoptAll (l.length + 1) l (tandEvent 4 0x1E 0 s2)) s)

/-- TAND_SELF_FENCE: 8 boundaries without the beat item; a seizure fences at once (seizeRole). -/
def execTandSelfFence (s : State) : Res State :=
  goOn (onlyIf (s.tand.st = .keeper && fieldRuns s && decide (8 ≤ s.tand.beatMiss)) selfFence s)

/-- TAND_FENCED_TO_LISTEN. -/
def execTandFencedToListen (s : State) : Res State :=
  goOn (onlyIf (s.tand.st = .fenced && optRuns s s.tandPlot) startTand s)

end Sys2Proof.Machine
end

