-- ==== Sys2Proof/Machine/Tick.lean ====
section
/-!
DEFINITION. The commands of the tick generator (chapter 1): SOF capture, the decision of an expecting boundary,
stretches, and the range of the trim.
-/

namespace Sys2Proof.Machine

/-! ### SOF capture (R26 to R29, R35, R636, R637) -/

/-- Full speed: one SOF a frame, and only microframe 0 expects one. -/
def fullSpeed (s : State) : Bool := s.hub.speed = 1

/-- The boundary that opened this tick expects a SOF. -/
def expecting (s : State) : Bool := !fullSpeed s || s.tick.uframe = 0

/-- The phase error of a capture at cycle c, from the nearest expecting boundary. -/
def phaseError (s : State) (c : Nat) : Int :=
  if fullSpeed s then
    let u := s.tick.uframe.toNat
    let before := c + 30000 * u
    let after := 30000 * (8 - u) - c
    if before ≤ after then before else -(after : Int)
  else if c ≤ 15000 then c else (c : Int) - 30000

/-- At full speed UFRAME is 0 at the SOF. -/
def sofUf (s : State) (uf : BitVec 3) : BitVec 3 := if fullSpeed s then 0 else uf

/-- The numbers of a SOF are loaded: at once after its boundary, else at its boundary. -/
def loadSof (now : Bool) (x : Sof) (t : Tick) : Tick :=
  if now then { t with sofNow := some x, frame := x.frame, uframe := x.uf } else { t with sofNext := some x }

/-- A SOF out of window stretches the tick, but in LOCKED. From FREE and HOLDOVER the run of boundaries without a SOF
(R27) starts anew here, so that a boundary at cycle 60,000 that ends this very stretch counts (R29). -/
def outOfWindow (c : Nat) (x : Sof) (fs : Bool) (t : Tick) : Tick :=
  match t.st with
  | .locked => { t with pendSt := some .holdover }
  | st =>
    let t1 := { t with
      stretch := some ⟨c, none, false⟩, pendSt := some .acquire, inWin := 0
      missRun := if st = .acquire then t.missRun else 0 }
    if fs then { t1 with sofNext := some { x with uf := 1 } }
    else if st = .acquire then t1
    else if 0 ≤ x.err then { t1 with frame := x.frame, uframe := x.uf }
    else { t1 with sofNext := some x }

/-- A SOF that comes in a stretched tick: at high speed it ends the stretch, not before cycle 30,000. -/
def sofInStretch (c : Nat) (x : Sof) (h : Stretch) (t : Tick) : Tick :=
  { t with stretch := some { h with endAt := some (max c 30000), bySof := true }, sofNext := some { x with err := 0 } }

/-- SOF_CAPTURE. -/
def execSofCapture (cycle : Nat) (frame : BitVec 11) (uf : BitVec 3) (s : State) : Res State :=
  goOn (onlyIf (clocked s && s.pwr.phase ≠ .rest && s.hub.pullup) (fun s =>
    let x : Sof := ⟨phaseError s cycle, frame, sofUf s uf⟩
    match s.tick.stretch with
    | some h => if fullSpeed s || h.endAt.isSome then s else s.onTick (sofInStretch cycle x h)
    | none =>
      if x.err.natAbs ≤ 120 then s.onTick (loadSof (decide (0 ≤ x.err)) x)
      else s.onTick (outOfWindow cycle x (fullSpeed s))) s)

/-! ### The decision at cycle 120 (R27, R28, R33, R637) -/

/-- The trim of HOLDOVER. -/
def holdTrim (t : Tick) : BitVec 16 := if t.holdLast then t.lastLocked else freeTrimNow t

/-- The steering law's step, at most 4 ppm a tick and inside the range of 1,000 ppm. -/
def steered (cur : BitVec 16) (d : Int) : BitVec 16 :=
  BitVec.ofInt 16 (max (-32000) (min 32000 (cur.toInt + max (-128) (min 128 d))))

/-- A state in which the trim is steered takes its new trim. -/
def steer (v : BitVec 16) (t : Tick) : Tick :=
  { t with curTrim := v, lastLocked := if t.st = .locked then v else t.lastLocked }

/-- The event: a SOF in window. -/
def sofEvent (t : Tick) : Tick :=
  match t.st with
  | .free => { t with st := .acquire, inWin := 0, missRun := 0 }
  | .acquire => { t with st := if 1 ≤ t.inWin then .locked else .acquire, inWin := t.inWin + 1, missRun := 0 }
  | _ => { t with st := .locked }

/-- The event: a boundary without a SOF. -/
def missEvent (t : Tick) : Tick :=
  match t.st with
  | .locked => { t with st := .holdover, sofMiss := true, curTrim := holdTrim t }
  | .acquire => { t with sofMiss := true, inWin := 0, missRun := t.missRun + 1 }
  | _ => { t with sofMiss := true }

/-- The samples of the tick that has just opened carry the state of its boundary (R31, R449). -/
def markSamples (s : State) : State :=
  s.onCads (fun l => l.map (fun c => { c with ticks := c.ticks.map (fun t =>
    if t.at_ = s.tick.now then { t with hold := tickHolds s, unlocked := tickUnlocked s } else t) }))

/-- SOF_DECISION. -/
def execSofDecision (s : State) : Res State :=
  goOn (onlyIf (clocked s && s.pwr.phase ≠ .rest && !s.tick.decided && expecting s) (fun s =>
    let s1 := s.onTick (fun t => { t with decided := true })
    markSamples (if s.tick.sofNow.isSome then
        ((s1.onTick sofEvent).onTick (steer (steered s.tick.curTrim (Config.trimStep s.free).toInt))).took
      else s1.onTick missEvent)) s)

/-- ACQUIRE_TO_FREE. -/
def execAcquireToFree (s : State) : Res State :=
  goOn (onlyIf (s.tick.st = .acquire && decide (8 ≤ s.tick.missRun)) (fun s =>
    markSamples (s.onTick (fun t =>
      { t with st := .free, curTrim := freeTrimNow t, inWin := 0, missRun := 0, rangeTicks := 0 }))) s)

/-! ### Stretches (R29, R30, R636) -/

/-- A stretch whose end is not known yet. -/
def stretchOpen (s : State) : Bool :=
  match s.tick.stretch with
  | some h => h.endAt.isNone
  | none => false

def endStretchAt (c : Nat → Nat) (t : Tick) : Tick :=
  { t with stretch := t.stretch.map (fun h => { h with endAt := some (c h.cause) }) }

/-- STRETCH_TIMEOUT: the boundary at cycle 60,000 counts as one without a SOF. -/
def execStretchTimeout (s : State) : Res State :=
  goOn (onlyIf (stretchOpen s && !fullSpeed s) (State.onTick (fun t =>
    { endStretchAt (fun _ => 60000) t with sofMiss := true, inWin := 0, missRun := t.missRun + 1 })) s)

/-- FS_STRETCH_END. -/
def execFsStretchEnd (s : State) : Res State :=
  goOn (onlyIf (stretchOpen s && fullSpeed s) (State.onTick (endStretchAt (· + 30000))) s)

/-! ### The range of the trim (R32) -/

/-- TICK_RANGE. -/
def execTickRange (s : State) : Res State :=
  goOn (onlyIf (decide (64 ≤ s.tick.rangeTicks)) (fun s =>
    raise ⟨0x60, 0x04, 0⟩ (s.onTick (fun t => { t with range := true, rangeTicks := t.rangeTicks - 64 }))) s)

end Sys2Proof.Machine
end

