-- ==== Sys2Proof/Machine/TypeC.lean ====
section
/-! DEFINITION. The commands of the Type-C ports and the PD physical layer (chapter 12). -/

namespace Sys2Proof.Machine

/-- In REST, a completed debounce, an accepted message or a received Hard Reset raises TC_WAKE (R535). -/
def tcWake (t : Nat) (s : State) : State := if s.pwr.phase = .rest then raisePort (12 + t) 0x37 s else s

/-! ### CC levels (R501, R502, R504) -/

/-- The partner pattern of a pair of levels. -/
def patternOf (a b : CcLevel) : Pattern :=
  match a, b with
  | .rd, .open => .sink false
  | .rd, .ra => .sink false
  | .open, .rd => .sink true
  | .ra, .rd => .sink true
  | .ra, .ra => .audio
  | .rd, .rd => .debug
  | _, _ => .none

def tcPattern (q : TcPort) : Pattern := patternOf q.cc1 q.cc2

/-- The levels as classified: a ball that carries VCONN reads Ra, and the BMC ball keeps its level while the port
transmits. Whether the frame of a SEND that waits for GoodCRC is still on the line is open (log 91). -/
def classifyCc (q : TcPort) (free : Nat) (cc : CcLevel × CcLevel) : CcLevel × CcLevel :=
  let sends := q.bist || q.hrSend || q.crSend || (q.phy = .gcrcWait && Config.sendsNow free)
  let c1 := if q.vconn && q.orient then .ra else if sends && !q.orient then q.cc1 else cc.1
  let c2 := if q.vconn && !q.orient then .ra else if sends && q.orient then q.cc2 else cc.2
  (c1, c2)

/-- The count of the state's condition after this boundary, and the pattern counted. -/
def countCc (q : TcPort) : TcPort :=
  match q.st with
  | .attachWait =>
    let p := tcPattern q
    if p = q.pat then { q with cnt := q.cnt + 1 } else { q with cnt := 1, pat := p }
  | .attached => { q with cnt := if bmcCc q = .open then q.cnt + 1 else 0 }
  | .audio | .debug => { q with cnt := if tcPattern q = .none then q.cnt + 1 else 0 }
  | .ccFault => { q with cnt := if q.cc1 = .over || q.cc2 = .over then 0 else q.cnt + 1 }
  | _ => q

/-- Rp is applied in the states of R503 that have it. -/
def hasRp (q : TcPort) : Bool :=
  q.st = .unattached || q.st = .attachWait || q.st = .attached || q.st = .audio || q.st = .debug

/-- Rp removed, VCONN open, VBUS to OFF, into CC_FAULT or ERROR_RECOVERY. -/
def tcFaulty (v : TcSt) (t : Nat) (s : State) : State := rpOff t (enterTc v t (leaveAttached t s))

/-- What the CC logic does at a boundary. -/
def tcBoundary (t : Nat) (cc : CcLevel × CcLevel) (s : State) : State :=
  if !(pEn s (12 + t) && tcEn s t && tcPhase s) then tcSync t s
  else
    let lv := classifyCc (s.tc t) s.free cc
    let s1 := s.took.onTc t (fun q => { q with
      cc1 := lv.1, cc2 := lv.2
      rpNow := if hasRp q then q.rpReq.getD q.rpNow else q.rpNow, rpReq := none })
    let q := s1.tc t
    let s2 :=
      if q.st = .disabled then s1
      else if (q.cc1 = .over || q.cc2 = .over || q.ovReq) && q.st ≠ .ccFault then tcFaulty .ccFault t s1
      else if q.recReq && q.st ≠ .ccFault then tcFaulty .errorRecovery t s1
      else s1.onTc t countCc
    s2.onTc t (fun q => { q with ovReq := false, recReq := false })

/-- TC_ATTACH_WAIT. -/
def execTcAttachWait (t : TcId) (s : State) : Res State :=
  let i := t.val
  goOn (onlyIf ((s.tc i).st = .unattached && tcPattern (s.tc i) ≠ .none) (fun s =>
    (enterTc .attachWait i s).onTc i (fun q => { q with cnt := 1, pat := tcPattern q })) s)

/-- Entry to ATTACHED: VCONN by VCONN_AUTO, an ON request when WANT is 1, neither from shutdown step 3 on
(R509, R512, R535). -/
def attachSink (t : Nat) (cc2 : Bool) (s : State) : State :=
  let s1 := (enterTc .attached t s).onTc t (fun q => { q with orient := cc2 })
  let s2 := s1.onTc t (fun q =>
    if tcVconnAuto s1 t && otherCc q = .ra && vconnAllowed s1 t then { q with vconn := true } else q)
  let s3 := if (s2.tc t).want && !(s2.tc t).noGate then tcRequest t true s2 else s2
  setPd 0 t s3

/-- TC_ATTACH. -/
def execTcAttach (t : TcId) (s : State) : Res State :=
  let i := t.val
  let q := s.tc i
  goOn (onlyIf (q.st = .attachWait && decide (1200 ≤ q.cnt)) (fun s =>
    match q.pat with
    | .sink cc2 => if (s.port (12 + i)).st = .off then tcWake i (attachSink i cc2 s) else s
    | .audio => tcWake i (enterTc .audio i s)
    | .debug => tcWake i (enterTc .debug i s)
    | .none => s) s)

/-- TC_DETACH: from ATTACHED, AUDIO or DEBUG after 120 boundaries, from ATTACH_WAIT on pattern NONE. -/
def execTcDetach (t : TcId) (s : State) : Res State :=
  let i := t.val
  let q := s.tc i
  goOn (match q.st with
    | .attachWait => onlyIf (tcPattern q = .none) (tcUnattached i) s
    | .attached => onlyIf (decide (120 ≤ q.cnt)) (fun s => tcWake i (tcUnattached i (leaveAttached i s))) s
    | .audio | .debug => onlyIf (decide (120 ≤ q.cnt)) (fun s => tcWake i (tcUnattached i s)) s
    | _ => s)

/-- ERROR_RECOVERY_END. -/
def execErrorRecoveryEnd (t : TcId) (s : State) : Res State :=
  let i := t.val
  goOn (onlyIf ((s.tc i).st = .errorRecovery && decide ((s.tc i).since + 240 ≤ s.tick.now)) (tcUnattached i) s)

/-- CC_FAULT_CLEAR. -/
def execCcFaultClear (t : TcId) (s : State) : Res State :=
  let i := t.val
  goOn (onlyIf ((s.tc i).st = .ccFault && decide (64 ≤ (s.tc i).cnt)) (enterTc .errorRecovery i) s)

/-- CC_OV (R534; log 90): VCONN opens, Rp is removed, CC_OV is raised; CC_FAULT follows at the next boundary. -/
def execCcOv (t : TcId) (s : State) : Res State :=
  let i := t.val
  goOn (onlyIf ((s.tc i).st ≠ .disabled) (fun s =>
    ep4Done i 4 0 (raisePort (12 + i) 0x36 (setPd 9 i ((rpOff i s).onTc i (fun q =>
      { q with ovReq := true, bist := false }))))) s)

/-! ### Transmitting (R517 to R522) -/

/-- The PD PHYs are held in reset for this tick: they send and receive nothing (R132, R133). -/
def pdHeld (s : State) : Bool := s.pwr.blkHeld.getLsbD 3

/-- SINKTX_DELAY_END. -/
def execSinktxDelayEnd (t : TcId) (s : State) : Res State :=
  goOn (onlyIf ((s.tc t.val).phy = .amsWait) (State.onTc t.val (fun q => { q with phy := .pending })) s)

/-- PD_TX_START: a Soft_Reset resets the MessageID state of its SOP type first. -/
def execPdTxStart (t : TcId) (s : State) : Res State :=
  let i := t.val
  let q := s.tc i
  goOn (onlyIf (q.phy = .pending && q.st = .attached && !q.hrSend && !q.crSend && !pdHeld s) (fun s =>
    let s1 := if isSoftReset (txMessage q) then resetIds (fun k => k = q.txSop) i s else s
    s1.onTc i (fun q => { q with phy := .gcrcWait, txTries := 1, txId := q.ids.getD q.txSop 0 })) s)

/-- PD_GOODCRC_RECEIVED: a matching GoodCRC; one of SOP' or SOP'' only while VCONN is on (R514). -/
def execPdGoodcrcReceived (t : TcId) (sop : BitVec 2) (msgId : BitVec 3) (s : State) : Res State :=
  let i := t.val
  let q := s.tc i
  goOn (onlyIf (q.phy = .gcrcWait && sop.toNat = q.txSop && msgId.toNat = q.txId && (sop = 0 || q.vconn)) (fun s =>
    pdFinish (if q.cancelled then 5 else 1) i (s.onTc i (fun q =>
      { q with ids := updNth q.ids q.txSop (fun _ => (q.txId + 1) % 8) }))) s)

/-- PD_GOODCRC_TIMEOUT: up to two more transmissions, then FAILED; a cancelled one is not repeated (R532). -/
def execPdGoodcrcTimeout (t : TcId) (s : State) : Res State :=
  let i := t.val
  let q := s.tc i
  goOn (onlyIf (q.phy = .gcrcWait) (fun s =>
    if q.cancelled then pdFinish 5 i s
    else if q.txTries < 3 then s.onTc i (fun q => { q with txTries := q.txTries + 1, retries := q.retries + 1 })
    else pdFinish 2 i s) s)

/-! ### Hard Reset, Cable Reset, BIST (R521, R523 to R526) -/

/-- HR_DONE. -/
def execHrDone (t : TcId) (s : State) : Res State :=
  let i := t.val
  goOn (onlyIf (s.tc i).hrSend (fun s =>
    ep4Done i 1 0 (afterHardReset i (setPd 5 i (s.onTc i (fun q => { q with hrSend := false }))))) s)

/-- HARD_RESET_RECEIVED: in ATTACHED only (R515). -/
def execHardResetReceived (t : TcId) (s : State) : Res State :=
  let i := t.val
  goOn (onlyIf ((s.tc i).st = .attached && !pdHeld s) (fun s => tcWake i (afterHardReset i (setPd 4 i (pdClear 6 i s)))) s)

/-- HR_POWER_REMOVE: step 1 of the source recovery. -/
def execHrPowerRemove (t : TcId) (s : State) : Res State :=
  let i := t.val
  let q := s.tc i
  let due := match q.hrAt with
    | some b => decide (b + 240 ≤ s.tick.now)
    | none => false
  goOn (onlyIf (q.hrBusy && !q.hrRemoved && due && wardenRuns s (12 + i)) (fun s =>
    tcRequest i false ((vconnOpen i s).onTc i (fun q => { q with hrRemoved := true, offAt := some s.tick.now }))) s)

/-- HR_POWER_RESTORE: steps 2 to 4, 5,600 ticks after the port reached OFF. -/
def execHrPowerRestore (t : TcId) (s : State) : Res State :=
  let i := t.val
  let q := s.tc i
  let p := s.port (12 + i)
  goOn (onlyIf (q.hrBusy && q.hrRemoved && p.st = .off && wardenRuns s (12 + i)
      && decide (max p.since (q.offAt.getD 0) + 5600 ≤ s.tick.now)) (fun s =>
    let s1 := if q.hrVconn && vconnAllowed s i then s.onTc i (fun q => { q with vconn := true }) else s
    let s2 := if q.want && !q.noGate then tcRequest i true s1 else s1
    setPd 10 i (s2.onTc i (fun q =>
      { q with hrBusy := false, hrAt := none, hrRemoved := false, offAt := none, hrVconn := false }))) s)

/-- CR_DONE. -/
def execCrDone (t : TcId) (s : State) : Res State :=
  let i := t.val
  goOn (onlyIf (s.tc i).crSend (fun s =>
    ep4Done i 2 0 (setPd 6 i (resetIds (fun k => k = 1 || k = 2) i (s.onTc i (fun q => { q with crSend := false }))))) s)

/-- BIST_CARRIER_END. -/
def execBistCarrierEnd (t : TcId) (s : State) : Res State :=
  goOn (onlyIf (s.tc t.val).bist (fun s =>
    ep4Done t.val 4 0 (s.onTc t.val (fun q => { q with bist := false }))) s)

/-- VCONN_OC (R513): the switch stays open until the next VCONN_ON, in a Hard Reset recovery too. -/
def execVconnOc (t : TcId) (s : State) : Res State :=
  goOn (onlyIf (s.tc t.val).vconn (fun s =>
    raisePort (12 + t.val) 0x35 (setPd 7 t.val ((vconnOpen t.val s).onTc t.val (fun q => { q with hrVconn := false })))) s)

/-! ### Receiving (R514 to R517, R531, R533) -/

/-- Frames of this SOP type are received now. -/
def sopHeard (s : State) (t sop : Nat) : Bool :=
  sop = 0 || (sop = 1 && tcSop1En s t && (s.tc t).vconn) || (sop = 2 && tcSop2En s t && (s.tc t).vconn)

/-- The two header bytes of a message, as a number. -/
def pdHeader (bytes : List Byte) : Nat := (bytes.getD 0 0).toNat + 256 * (bytes.getD 1 0).toNat
def pdMsgId (bytes : List Byte) : Nat := pdHeader bytes / 512 % 8
/-- GoodCRC: type 1, no data objects, not extended. -/
def isGoodCrc (bytes : List Byte) : Bool := pdHeader bytes % 32 = 1 && pdHeader bytes / 4096 % 16 = 0

/-- The receive path has no room for a message of n bytes. -/
def rxFull (s : State) (t n : Nat) : Bool :=
  if tcRxEp4 s t then !epRoom s 4 (List.replicate (2 + (n + 3) / 4) 0) else decide (8 ≤ (s.tc t).rxCount)

/-- A message that arrives clears the SEND that waits, or that waits for GoodCRC (R531). -/
def discardSend (t : Nat) (s : State) : State :=
  let q := s.tc t
  if q.phy = .idle then s else pdFinish (if q.cancelled then 5 else 3) t s

/-- Deliver a message by RX_ROUTE (R516, R529). -/
def deliver (t sop : Nat) (bytes : List Byte) (s : State) : State :=
  if tcRxEp4 s t then
    pushIn 4 (mkW [(8, 2, t), (10, 2, 1), (16, 2, sop), (18, 5, bytes.length)] :: s.tick.count :: packBytes bytes) s
  else
    setPd 2 t (s.onTc t (fun q =>
      { q with
        rxSlots := updNth q.rxSlots ((q.rxHead + q.rxCount) % 8) (fun _ => ⟨sop, s.tick.count.setWidth 16, bytes⟩)
        rxCount := q.rxCount + 1 }))

/-- An accepted frame: dropped where there is no room; a received Soft_Reset resets its MessageID state first; a
duplicate is discarded. -/
def acceptFrame (t sop : Nat) (bytes : List Byte) (s : State) : State :=
  if rxFull s t bytes.length then
    let was := (s.tc t).evt.getLsbD 8
    let s1 := setPd 8 t (s.onTc t (fun q => { q with rxDrops := q.rxDrops + 1 }))
    if was then s1 else raisePort (12 + t) 0x34 s1
  else
    let s1 := discardSend t s
    let s2 := if isSoftReset bytes then resetIds (fun k => k = sop) t s1 else s1
    if (s2.tc t).rxIds.getD sop none = some (pdMsgId bytes) then s2.onTc t (fun q => { q with dups := q.dups + 1 })
    else deliver t sop bytes (s2.onTc t (fun q => { q with rxIds := updNth q.rxIds sop (fun _ => some (pdMsgId bytes)) }))

/-- PD_MESSAGE_RECEIVED. -/
def execPdMessageReceived (t : TcId) (sop : BitVec 2) (crcOk : Bool) (bytes : List Byte) (s : State) : Res State :=
  let i := t.val
  goOn (onlyIf ((s.tc i).st = .attached && sopHeard s i sop.toNat && !pdHeld s) (fun s =>
    if !crcOk then s.onTc i (fun q => { q with rxCrcErr := q.rxCrcErr + 1 })
    else if bytes.length < 2 || 30 < bytes.length || isGoodCrc bytes then s
    else tcWake i (acceptFrame i sop.toNat bytes s)) s)

/-! ### Endpoint 4 (R528, R529, R533, R535) -/

/-- A request on endpoint 4 OUT; without its plot running it is answered NAK, halted with STALL. -/
def ep4Request (f : State → State) (s : State) : State :=
  onlyIf (usbUp s && (s.hubPort 16).st = .enabled) (fun s =>
    if (s.ep 4).halted then stall s
    else match s.funcPlot 4 with
      | none => nak s
      | some p =>
        if !epServes s 4 || claimWaits s (2 * p) 0x40 then nak s
        else f (ack (readyItem p (classCode (epClass s p 4)) (epRef 4) s))) s

/-- EP4_SEND: through the transmit mailbox, which a SEND under way holds (R537). -/
def execEp4Send (t : TcId) (tag : Byte) (sop : BitVec 2) (ams : Bool) (bytes : List Byte) (s : State) : Res State :=
  let i := t.val
  goOn (ep4Request (fun s =>
    let s1 := if txBusy (s.tc i) then s else s.onTc i (fun q =>
      { q with
        txDesc := mkW [(0, 2, sop.toNat), (2, 1, b2n ams), (8, 5, min 31 bytes.length)]
        txBytes := (List.range 8).map (fun k => (packBytes bytes).getD k 0) })
    pdSend (some tag.toNat) i s1) s)

/-- A request other than SEND: rejected where the port has no PD function (R500; log 89). -/
def ep4Port (t : TcId) (tag : Byte) (f : State → State) (s : State) : State :=
  ep4Request (fun s => if tcEn s t.val then f s else ep4Result t.val tag.toNat 7 s) s

/-- EP4_HARD_RESET. -/
def execEp4HardReset (t : TcId) (tag : Byte) (s : State) : Res State :=
  goOn (ep4Port t tag (fun s => (pdHardReset t.val s).onTc t.val (fun q => { q with ep4 := q.ep4 ++ [(1, tag.toNat)] })) s)

/-- EP4_CABLE_RESET: rejected while VCONN is off (R514). -/
def execEp4CableReset (t : TcId) (tag : Byte) (s : State) : Res State :=
  let i := t.val
  goOn (ep4Port t tag (fun s =>
    if (s.tc i).vconn then (pdCableReset i s).onTc i (fun q => { q with ep4 := q.ep4 ++ [(2, tag.toNat)] })
    else ep4Result i tag.toNat 7 (pdCableReset i s)) s)

/-- EP4_CANCEL. -/
def execEp4Cancel (t : TcId) (tag : Byte) (s : State) : Res State :=
  goOn (ep4Port t tag (fun s => ep4Result t.val tag.toNat 0 (pdCancelSend t.val s)) s)

/-- EP4_BIST_CARRIER. -/
def execEp4BistCarrier (t : TcId) (tag : Byte) (s : State) : Res State :=
  goOn (ep4Port t tag (fun s => s.onTc t.val (fun q => { q with bist := true, ep4 := q.ep4 ++ [(4, tag.toNat)] })) s)

end Sys2Proof.Machine
end

