-- ==== Sys2Proof/Machine/Schedule.lean ====
section
/-!
DEFINITION. The tick boundary (R38 and every rule that names "each boundary"), work items, and late Spate operations.
TICK_BOUNDARY is the first command of a boundary: the other commands of that boundary follow it (log 1).
-/

namespace Sys2Proof.Machine

/-! ### The tick (R25, R32, R35, R36, R637) -/

/-- Microframe and frame numbers advance by one microframe. -/
def advanceFrame (t : Tick) : Tick :=
  { t with uframe := t.uframe + 1, frame := if t.uframe = 7 then t.frame + 1 else t.frame }

/-- The numbers of the tick that opens. -/
def openNumbers (t : Tick) : Tick :=
  match t.sofNext with
  | some x => { t with frame := x.frame, uframe := x.uf }
  | none => advanceFrame t

/-- A state change that waited for this boundary. -/
def applyPendSt (t : Tick) : Tick :=
  match t.pendSt with
  | none => t
  | some st => { t with st := st, pendSt := none }

/-- The trim of FREE and HOLDOVER follows TICK_TRIM: a write made in one of these states is in use from the next
boundary on. DESIGN CHOICE: R33 and R61 name no moment (log 70). -/
def openTrim (t : Tick) : BitVec 16 :=
  match t.st with
  | .free => freeTrimNow t
  | .holdover => holdTrim t
  | _ => t.curTrim

/-- TICK_OUT pulses at this boundary. -/
def tickPulse (rest : Bool) (t : Tick) : Bool :=
  match t.toutMode.toNat with
  | 1 => true
  | 2 => t.uframe = 0
  | 3 => !rest && (t.st = .locked || t.st = .holdover)
  | _ => false

/-- A stretched tick ends here: RESTEP, and a SOF, or the SOF of a full-speed stretch, ends a run without one. -/
def closeStretch (fs : Bool) (t : Tick) : Tick :=
  match t.stretch with
  | none => { t with endedStretch := false }
  | some h =>
    { t with
      stretch := none, endedStretch := true, restep := true
      missRun := if fs || h.bySof then 0 else t.missRun }

/-- Ticks in ACQUIRE with the trim at an end of its range. -/
def countRange (t : Tick) : Tick :=
  { t with rangeTicks := if t.st = .acquire && t.curTrim.toInt.natAbs = 32000 then t.rangeTicks + 1 else 0 }

/-- The tick that opens, in a device that does not rest. A boundary that ended a stretch has no decision. -/
def openTick (fs : Bool) (t : Tick) : Tick :=
  let ended := t.stretch.isSome
  let t1 := openNumbers (closeStretch fs (applyPendSt (countRange t)))
  let t2 := { t1 with
    count := t1.count + 1, now := t1.now + 1, curTrim := openTrim t1, sofNow := t1.sofNext, sofNext := none
    decided := ended || (fs && t1.uframe ≠ 0) }
  { t2 with tickOut := tickPulse false t2 }

/-- A boundary in REST (R635). -/
def restTick (t : Tick) : Tick :=
  let t1 := advanceFrame t
  let t2 := { t1 with count := t1.count + 1, now := t1.now + 1, sofMiss := true, decided := true, endedStretch := false }
  { t2 with tickOut := tickPulse true t2 }

/-! ### Counts of the ending tick (R42, R43, R51 to R53) -/

/-- An item still running is rolled back; its cycles up to the boundary count. -/
def overrunPlot (p : Nat) (s : State) : State :=
  match (s.plot p).running with
  | none => s
  | some r =>
    let n := 30000 - r.start
    let s1 := (rollItem p s).onPlot p (fun q => { addCycles r.cls n q with ovrCnt := satInc q.ovrCnt 65535 })
    (raisePlot p 0x01 r.item.kind s1).onTick (fun t => { t with ovrAny := true })

/-- The counts of the tick are latched and cleared. -/
def latchPlot (q : Plot) : Plot :=
  { q with
    lastUsed := q.used, lastSpate := q.spate, peakUsed := max q.peakUsed q.used, peakSpate := max q.peakSpate q.spate
    used := 0, spate := 0 }

/-- What a boundary does with the use counters of plot Pp. -/
def boundaryPlot (p : Nat) (s : State) : State :=
  let s1 := (overrunPlot p s).onPlot p latchPlot
  if decide (cSpateRes (s1.plot p).wc p < (s1.plot p).lastSpate) then
    raisePlot p 0x02 (s1.plot p).lastSpate (s1.onPlot p (fun q => { q with spxCnt := satInc q.spxCnt 255 }))
  else s1

/-! ### The CRC pass and the open window (R228, R231) -/

/-- One word enters the pass: a word written in this tick with either value. -/
def passWord (s : State) (a : W × Nat) (x : Nat) : W × Nat :=
  match s.cfg.touched.find? (fun e => e.1 = x) with
  | none => (crc32Word a.1 (rdW s.cfg.space x), a.2)
  | some e => (crc32Word a.1 (if Config.passNew a.2 then rdW s.cfg.space x else e.2), a.2 + 1)

/-- The words of the ending tick are read. -/
def passSlice (s : State) : State :=
  match s.cfg.pass with
  | none => s
  | some q =>
    if 64 ≤ q.k then s
    else
      let r := (passAddrs q.k).foldl (passWord s) (q.crc, s.free)
      { s.onCfg (fun c => { c with pass := some { q with k := q.k + 1, crc := r.1 } }) with free := r.2 }

/-- Passes run back to back where they run. -/
def passBoundary (s : State) : State :=
  if passPhase s then
    let s1 := passSlice s
    (if s1.cfg.pass.isNone then startPass false s1 else s1).onCfg (fun c => { c with touched := [] })
  else s.onCfg (fun c => { c with touched := [], pass := none })

/-- The open window runs from the first boundary after the opening, in whatever state that is; the ticks that count are
those of RUN and QUIESCE in which no commit is being checked. -/
def windowBoundary (s : State) : State :=
  if s.cfg.isOpen then
    s.onCfg (fun c =>
      { c with winRun := true, window := if c.winRun && !c.checking && fieldSwaps s then c.window + 1 else c.window })
  else s

/-! ### Commons (R50, R293, R559, R590) -/

/-- The scrubber's 128 words. -/
def scrub (s : State) : State :=
  if s.field.memRun then s
  else
    (forEach ((List.range 128).map (s.mem.scrubAt + ·)) scrubWord s).onMem (fun m =>
      { m with scrubAt := (m.scrubAt + 128) % 65536 })

/-- The first n returned parcels leave their lists, the lowest plot first. -/
def dropZeroed : Nat → List Plot → List Plot
  | _, [] => []
  | n, p :: l => { p with zeroing := p.zeroing.drop n } :: dropZeroed (n - p.zeroing.length) l

/-- The zero-fill of returned parcels, 256 a tick: words of 0 with valid check bits (R293). The order among those that
wait is open (log 25). -/
def zeroFill (s : State) : State :=
  let l := (s.plots.flatMap Plot.zeroing).take 256
  (s.onPlots (dropZeroed 256)).onMem (fun m => { m with commons := l.foldl (fun c x => fillParcel x c) m.commons })

/-! ### The sense ADC (R473, R474, R477, R587 to R589) -/

/-- The corrected code, rounded and clamped; z and r are sums over 64 codes. -/
def correctCode (a : Adc) (raw : Nat) : Nat :=
  let y : Int := 200 * ((a.r : Int) - a.z)
  let x : Int := 2 * 334933 * (64 * (raw : Int) - a.z) + 100 * ((a.r : Int) - a.z)
  (max 0 (min 4095 (64 + x / y))).toNat

/-- The reason of a channel of port n, the lowest that applies. -/
def sampleReason (s : State) (n : Nat) (current : Bool) : Nat :=
  let p := s.port n
  if (if current then p.iOpen else p.vOpen) then 2
  else if p.classifying && tripsOn current p then 3
  else if !s.adc.valid then 4
  else 0

/-- Code and reason of ADC slot i. -/
def slotSample (s : State) (adc : List (BitVec 12)) (i : Nat) : Nat × Nat :=
  let raw := (adc.getD i 0).toNat
  (if s.adc.valid then correctCode s.adc raw else raw, sampleReason s (i / 2) (i % 2 = 1))

/-- The words of a set with these samples of the tick that ended. -/
def setWords (s : State) (l : List (Nat × Nat)) : List (BitVec 12) :=
  let valid (w : Nat) : Nat :=
    ((List.range 12).map (fun i => if (l.getD (12 * w + i) (0, 0)).2 ≠ 0 then 2 ^ i else 0)).sum
  BitVec.ofNat 12 ((s.tick.count - 1).toNat) :: l.map (fun x => BitVec.ofNat 12 x.1)
    ++ (List.range ((l.length + 11) / 12)).map (fun w => BitVec.ofNat 12 (valid w))

/-- A warden's set; the reasons wait beside it. -/
def wardenSet (p : Nat) (adc : List (BitVec 12)) (s : State) : State :=
  let l := maskPorts s p
  let v (n : Nat) := slotSample s adc (2 * n)
  let i (n : Nat) := slotSample s adc (2 * n + 1)
  let s1 := forEach l (fun n s => s.onPort n (fun q =>
    { q with marks := q.marks ++ [((s.tick.count - 1).toNat % 4096, (v n).2, (i n).2)] })) s
  adcWrite p (setWords s (l.flatMap (fun n => [v n, i n]))) s1

/-- The set of a CAD plot whose stream takes a channel. -/
def cadSet (p : Nat) (adc : List (BitVec 12)) (s : State) : State :=
  let m := (s.plot p).wc
  if cadSense m p && !senseNone m p then adcWrite p (setWords s [slotSample s adc (senseSlot m p)]) s else s

/-- The ADC was in reset: no set, and every sample of the tick is invalid with code 0 (R134, R477). -/
def adcInReset (s : State) : State :=
  let s1 := forEach (List.range 16) (fun n s => s.onPort n (fun q =>
    { q with v := { q.v with code := 0, reason := 1 }, i := { q.i with code := 0, reason := 1 }, setAt := s.tick.now - 1 })) s
  forEach (List.range 8) (fun k s => match s.cadPlot k with
    | some p => if cadSense (s.plot p).wc p then giveSense k ((s.tick.count - 1).setWidth 12) 0 true s else s
    | none => s) s1

/-- The samples and the reference codes of the tick that ended. -/
def adcBoundary (adc : List (BitVec 12)) (s : State) : State :=
  if s.pwr.blkHeld.getLsbD 8 then adcInReset s
  else
    let s1 := if fieldRuns s then
        forEach (s.plotsOf rCAD) (fun p => cadSet p adc) (forEach (s.plotsOf rWARD) (fun p => wardenSet p adc) s)
      else s
    s1.onAdc (fun a =>
      { a with zs := a.zs ++ [(adc.getD 32 0).toNat], rs := a.rs ++ [(adc.getD 33 0).toNat] })

/-! ### Wardens (R480, R481, R492, R524) -/

/-- What the warden of port n does in its first item. -/
def wardenOpen (n : Nat) (s : State) : State :=
  if !wardenRuns s n then s
  else
    let s1 := if (s.port n).safeDue then
        (if active (s.port n) then dischargePort true n s else s.onPort n (fun p => { p with safeDue := false })) else s
    let due := decide (12 ≤ n) && (s1.tc (n - 12)).hrRail
    let s2 := if due then s1.onTc (n - 12) (fun q => { q with hrRail := false }) else s1
    s2.onPort n (fun p =>
      if p.st ≠ .on then p
      else
        let busy := if due then some (false, s.tick.now + pRailSettle s n) else p.railBusy
        match busy with
        | some (true, d) => { p with railBusy := some (true, d), hvSel := true, ovpHv := true }
        | some (false, d) => { p with railBusy := some (false, d), hvSel := false }
        | none => p)

/-! ### Hub, tandem, field (R279, R411 to R415, R426, R578, R584 to R586, R590, R594) -/

def hubBoundary (s : State) : State :=
  s.onHub (fun h => { h with halted := h.halted.filter (fun n => !h.ttReset.contains n), ttReset := [] })

/-- The TAND plot's counters. -/
def tandBoundary (s : State) : State :=
  if s.tand.st = .off then s
  else s.onTand (fun t =>
    { t with
      linkSilent := satInc t.linkSilent 255, hbSilent := satInc t.hbSilent 255
      beatRun := if t.beatTick then t.beatRun + 1 else 0, beatTick := false
      beatMiss := if t.st ≠ .keeper || t.beatSent then 0 else t.beatMiss + 1
      beatSent := false, txOut := [], hbPulse := false })

/-- A forced test is taken, or refused at the boundary. -/
def takeForce (s : State) : State :=
  match s.field.forceReq with
  | none => s
  | some f =>
    let why := forceRefused s f
    let s1 := s.onField (fun x => { x with forceReq := none })
    if why ≠ 0 then refuseFallow why s1
    else
      let s2 := abandonTest s1
      if s.field.fallow = some f then s2 else beginShadow .forced (plotOn s f) [] s2

/-- An accepted memory test starts. -/
def takeMemtest (s : State) : State :=
  s.onField (fun x => if x.memReq then { x with memReq := false, memRun := true, memAborted := false } else x)

/-- Working copies a failed furrow lost are loaded again while the configuration is not open. -/
def reloadLost (s : State) : State :=
  if s.cfg.isOpen then s
  else forEach ((List.range 63).filter (fun p => (s.plot p).reloadWc)) (fun p s => loadPlot p (extractPlot s.cfg.space p) s) s

/-- The rotation counter and what the field controller takes at this boundary. -/
def fieldBoundary (s : State) : State :=
  let s1 := if fieldSwaps s then s.onField (fun x => { x with counter := x.counter + 1 }) else s
  let s2 := takeMemtest (takeForce (if fieldSwaps s1 then shadowLoaded s1 else s1))
  if fieldRuns s then freeHeld (reloadLost s2) else s2

/-! ### Items that are ready anew at a boundary (R438, R640) -/

/-- The kinds of a role whose work comes round with every tick. -/
def tickKinds (s : State) (p : Nat) : List Nat :=
  let r := s.role p
  let l := if r = rWARD then [0, 1, 2] else if r = rTAND || r = rCAD then [0, 1]
    else if r = rTT || r = rCULV || (r = rFUNC && s.funcPlot 0 = some p) then [3] else []
  l.filter (fun k => cClass (s.plot p).wc p k ≠ 3)

def readyTick (s : State) : State :=
  forEach (List.range 63) (fun p s => forEach (tickKinds s p) (fun k => readyItem p k 0) s) s

/-! ### TICK_BOUNDARY -/

/-- A remote wake-up drives K for 10.0 ms (R282). -/
def endWakeDrive (s : State) : State :=
  s.onHub (fun h => { h with driveK := h.driveK && decide (s.tick.now < h.driveAt + 80) })

/-- What every boundary does, in REST too: the Type-C logic, the remote wake-up's end and the streams. -/
def everyBoundary (cc : List (CcLevel × CcLevel)) (s : State) : State :=
  let s1 := endWakeDrive (forTcs (fun t => tcBoundary t (cc.getD t (.open, .open))) s)
  (forEach (List.range 8) cadBoundary s1).onStby (fun b => { b with wdogCount := 0 })

/-- What a boundary of a device that does not rest does, in the order of R38. -/
def liveBoundary (adc : List (BitVec 12)) (s : State) : State :=
  let s1 := if fieldRuns s then forEach (List.range 63) boundaryPlot s else s
  let s2 := fieldBoundary (windowBoundary (passBoundary s1))
  let s3 := zeroFill (scrub s2)
  let s4 := adcBoundary adc (s3.onSluices ageSluices)
  let s5 := tandBoundary (hubBoundary (forEach (List.range 16) wardenOpen s4))
  let s6 := s5.onPwr (fun p => { p with stopNew := p.stopNew || p.reqQuiesce })
  let s7 := drainRx (s6.tand.rxWait.length + 1) s6
  settleOpen (if fieldRuns s7 then readyTick s7 else s7)

/-- TICK_BOUNDARY. A world presents 34 ADC codes and 4 pairs of CC levels (log 2); a tick being stretched does not end
before its end is known. -/
def execTickBoundary (adc : List (BitVec 12)) (cc : List (CcLevel × CcLevel)) (s : State) : Res State :=
  if adc.length ≠ 34 || cc.length ≠ 4 then .fault .malformedWorld
  else goOn (onlyIf (clocked s && !stretchOpen s) (fun s =>
    if s.pwr.phase = .rest then everyBoundary cc (windowBoundary (s.onTick restTick))
    else everyBoundary cc (liveBoundary adc (s.onTick (openTick (fullSpeed s))))) s)

/-! ### Spate operations that come late (R2, R6) -/

/-- SPATE_LATE: the operation was not emitted before that boundary, its entry open, or closed without its having been
carried out (chapter 0, "Source in the path becomes severe"). One served from a buffer has closed OK. -/
def execSpateLate (p : PlotId) (id : BitVec 14) (s : State) : Res State :=
  let i := id.toNat
  let e := s.entry i
  goOn (onlyIf ((e.opn || e.close ≠ .ok) && e.cls = .spate && e.owner = p.val && !e.emitted && !e.late
      && decide (e.openAt + 2 ≤ s.tick.now))
    (fun s => raisePlot p.val 0x03 i (s.onEntry i (fun e => { e with late := true }))) s)

/-! ### Work items (R41, R42, R316, R437, R438) -/

/-- The slot of plot Pp that holds a cycle. -/
def slotAt (m : Store W) (p c : Nat) : Option Slot :=
  (cSlots m p).find? (fun x => decide (x.start ≤ c) && decide (c < x.start + x.len))

/-- An item whose work has a place of its own may start in slot x: a Spate split goes downstream in the tick after its
start-split (R273); the beat item is the first item of the TAND plot's first slot (R411). -/
def mayStart (s : State) (p : Nat) (x : Slot) (i : Item) : Bool :=
  if i.kind ≠ 0 then true
  else if s.role p = rTT then decide ((s.entry i.ref).openAt < s.tick.now)
  else if s.role p = rTAND then (s.plot p).used = 0 && (cSlots (s.plot p).wc p).head? = some x
  else true

/-- The item that starts at a cycle: the oldest ready one of the slot's class that ends inside the slot and before the
boundary. Items that became ready at one time stand in the order of their kinds. A beat item comes before all. -/
def startable (s : State) (p c : Nat) : Option Running :=
  let m := (s.plot p).wc
  match slotAt m p c with
  | none => none
  | some x =>
    let fits (i : Item) : Bool :=
      cClass m p i.kind = x.cls && decide (c + cCost m p i.kind ≤ min 30000 (x.start + x.len)) && mayStart s p x i
    let beat (i : Item) : Bool := s.role p = rTAND && i.kind = 0 && fits i
    match ((s.plot p).ready.find? beat).or ((s.plot p).ready.find? fits), classOf x.cls with
    | some i, some k => some ⟨i, k, c⟩
    | _, _ => none

/-- WORK_ITEM_START. -/
def execWorkItemStart (p : PlotId) (cycle : Nat) (s : State) : Res State :=
  match startable s p.val cycle with
  | none => goOn s
  | some r => goOn (onlyIf (plotRuns s p.val && (s.plot p.val).running.isNone) (State.onPlot p.val (fun q =>
      { q with running := some r, ready := q.ready.erase r.item })) s)

/-- Endpoint work of a FUNC plot: a request it hands on, an IN packet, or a stream packet it takes (R436, R449). -/
def funcWork (p ref : Nat) (s : State) : State :=
  if ref < 0x8000 then passOp ref s
  else if ref = streamRef then takeStreams p (s.sluice (2 * p)).pkts.length s
  else fillIn (ref - 0x8000) s

/-- The link item of a TAND plot; it waits while 32 frames are unacknowledged (R410). -/
def linkWork (p : Nat) (i : Item) (s : State) : State :=
  if linkRoom s then
    let s1 := sendMirror (flushFwd s.tand.toSend s)
    drainRx (s1.tand.rxWait.length + 1) s1
  else readyItem p i.kind i.ref s

/-- What the item of a role does when it ends (R640). -/
def itemWork (p : Nat) (i : Item) (s : State) : State :=
  let r := s.role p
  if r = rTT then (if i.kind ≤ 2 then splitOnWire p i s else s)
  else if r = rFUNC then (if i.kind ≤ 2 then funcWork p i.ref s else s)
  else if r = rCULV then (if i.kind ≤ 2 then feedOp (cCulvert (s.plot p).wc p - 1) i.ref s else s)
  else if r = rCAD then (if i.kind = classCode (cadClass (s.plot p).wc p) then cadStage p i s else s)
  else if r = rTAND then (if i.kind = 1 then linkWork p i s else s)
  else s

/-- The mark of a staged write: its own, or that of a word it rests on (R58). -/
def stagedMark (s : State) (x : CommonsWrite) : Bool := x.poison || x.srcs.any (fun a => (s.cword a.toNat).poison)

/-- One staged commons write takes effect with its mark; an armed injection is spent on it (R572). -/
def writeStaged (x : CommonsWrite × Bool) (s : State) : State :=
  let inj := armed s 0x63 x.1.word.toNat
  let s1 := writeCommons x.1.word.toNat x.1.data x.2 inj s
  if inj then disarm s1 else s1

/-- WORK_ITEM_END. No item ends in the cycles of a stretched tick beyond cycle 30,000: the field pauses (R30, R55). What
the item read is marked where it is in double error, and nothing that rests on it passes on unmarked (R58). What an item
that is rolled back had read is open: DESIGN CHOICE (log 92). -/
def execWorkItemEnd (p : PlotId) (cycle : Nat) (reads : List (BitVec 16)) (writes : List CommonsWrite) (s : State) :
    Res State :=
  match (s.plot p.val).running with
  | none => goOn s
  | some r => goOn (onlyIf (decide (cycle ≤ 30000)) (fun s =>
      let s1 := s.onPlot p.val (fun q => addCycles r.cls (cycle - r.start) { q with running := none })
      let s2 := forEach (reads ++ writes.flatMap CommonsWrite.srcs) (fun a => readCommons a.toNat) s1
      let s3 := settleSluices p.val s2
      itemWork p.val r.item (forEach (writes.map (fun x => (x, stagedMark s2 x))) writeStaged s3)) s)

end Sys2Proof.Machine
end

