-- ==== Sys2Proof/Machine/Sluices.lean ====
section
/-! DEFINITION. The commands of the sluices (chapter 7). -/

namespace Sys2Proof.Machine

/-- The peer codes that a claim may bring (R308). -/
def listedPeer (peer : Nat) : Bool := decide (peer < 63) || (decide (0x40 ≤ peer) && decide (peer ≤ 0x59))

/-- The class of a claim: on a sluice B that of the item under way, which alone writes there (R319). -/
def claimClass (s : State) (i : Nat) (cls : TClass) : TClass :=
  if i % 2 = 1 && decide (i < 126) then (match (s.plot (i / 2)).running with | some r => r.cls | none => cls) else cls

/-- SLUICE_CLAIM (R308 to R311, R319). `peer` is the producer in a sluice A and the consumer named in a sluice B. -/
def execSluiceClaim (i : SluiceId) (peer : BitVec 7) (cls : TClass) (len : BitVec 8) (s : State) : Res State :=
  goOn (onlyIf (clocked s && len ≠ 0 && listedPeer peer.toNat)
    (claimSluice i.val ⟨claimClass s i.val cls, peer.toNat, len.toNat⟩) s)

/-- CLAIM_GRANT (R310). A sample set that waits for its claim is then written (R474). -/
def execClaimGrant (i : SluiceId) (s : State) : Res State :=
  goOn (if i.val % 2 = 0 then adcFlush (i.val / 2) (grantSluice i.val s) else grantSluice i.val s)

/-- SLUICE_WRITE (R313, R315, R316, R331): into sluice B of a plot whose item is under way the write is staged. -/
def execSluiceWrite (i : SluiceId) (data : W) (vb : BitVec 2) (poison last : Bool) (s : State) : Res State :=
  let x : SWrite := ⟨data, vb.toNat, poison, last⟩
  goOn (if i.val % 2 = 1 && itemOf s i.val then
      s.onSluice i.val (fun q => if q.opn.isSome then { q with stagedWr := q.stagedWr ++ [x] } else q)
    else writeSluice i.val x s)

/-- SLUICE_TAKE (R317, R318, R326, R327, R334). -/
def execSluiceTake (i : SluiceId) (s : State) : Res State := goOn (takeSluice i.val s)

/-- SLUICE_PEEK (R316, R327): the head word's tag is reported; the sluice does not change. -/
def execSluicePeek (i : SluiceId) (s : State) : Res State :=
  goOn (s.onSluice i.val (fun q => { q with out := (sWords q)[q.staged]? }))

/-- DROP_REMAINDER (R321). -/
def execDropRemainder (i : SluiceId) (s : State) : Res State := goOn (dropSluice i.val s)

/-- SLUICE_REWIND (R330). -/
def execSluiceRewind (i : SluiceId) (s : State) : Res State := goOn (s.onSluice i.val rewindPacket)

/-- A word as the bank moves it: PEER rewritten, a bad parity marked and corrected (R319, R334). -/
def movedWord (p : Nat) (w : SWord) : SWord :=
  { w with peer := p, poison := w.poison || w.parBad, parBad := false }

/-- A stream packet in the sluice A of a FUNC plot is Flow work of that plot (R436, R449). -/
def streamIn (q p : Nat) (s : State) : State :=
  if s.role q = rFUNC && s.role p = rCAD then readyItem q 1 streamRef s else s

/-- SLUICE_TRANSFER (R319): the bank claims sluice A of the plot named at the head of sluice B of Pp, and moves
the packet once that claim is granted. -/
def execSluiceTransfer (p : PlotId) (s : State) : Res State :=
  let b := 2 * p.val + 1
  match (s.sluice b).pkts with
  | [] => goOn s
  | k :: _ =>
    let q := (k.words.headD noWord).peer
    let a := 2 * q
    let claim : SClaim := ⟨k.cls, p.val, k.words.length⟩
    let held (s : State) : Bool :=
      match (s.sluice a).opn with
      | some o => o.claim = claim && o.words.isEmpty
      | none => false
    let s1 := if held s || (s.sluice a).claims.contains claim then grantSluice a s else claimSluice a claim s
    if decide (q < 63) && held s1 then
      let s2 := s1.onSluice a (fun t =>
        { t with opn := none, pkts := t.pkts ++ [{ k with words := k.words.map (movedWord p.val) }] })
      let s3 := s2.onSluice b (freeHead k.words.length)
      goOn (streamIn q p.val (forEach (k.words.filter SWord.parBad)
        (fun _ s => raise ⟨0x64, 0x12, 32 * b + (Config.sluiceStage s.free).toNat⟩ s.took) s3))
    else goOn (if q < 63 then s1 else s)

/-- SLUICE_STALE (R332). -/
def execSluiceStale (i : SluiceId) (s : State) : Res State :=
  match (s.sluice i.val).opn with
  | none => goOn s
  | some o => goOn (onlyIf (decide (sStale s i.val ≤ o.stale)) (fun s =>
      raiseBound i.val 0x11 (s.onSluice i.val (fun q =>
        { commitPacket (if narrowPeer o.claim.peer && i.val % 2 = 0 then 1 else 3) true q with stales := q.stales + 1 }))) s)

end Sys2Proof.Machine
end

