-- ==== Sys2Proof/Machine/Supplies.lean ====
section
/-! DEFINITION. The commands of supplies, reset and seeding (chapters 2 and 3). -/

namespace Sys2Proof.Machine

/-! ### Power-on, brown-out, RST_N (R74 to R76, R105, R136) -/

/-- POWER_ON_RELEASE (R75). A power-on that no brown-out began, or in which every rail fell, records POR (R98, R141). -/
def execPowerOnRelease (testmode : Bool) (s : State) : Res State :=
  goOn (onlyIf (s.pwr.phase = .powerOn || s.pwr.phase = .standby) (fun s =>
    let s1 := if s.pwr.railsLow.isEmpty then recordCause 1 s else s
    tryRelease (s1.onPwr (fun p => { p with porDone := true, railsLow := [], testmode := testmode }))) s)

/-- A standby word takes its old value back. -/
def undoWord (x : Bool × Nat × W) (b : Stby) : Stby :=
  if x.1 then { b with sram := wrW b.sram x.2.1 x.2.2 } else { b with bkp := wrW b.bkp x.2.1 x.2.2 }

/-- R105: a brown-out within 1 us of a frame or request keeps of each standby word it wrote the old value or the new
one. -/
def undoStandby (s : State) : State :=
  forEach s.stby.prev (fun x s => (if Config.stbyOld s.free then s.onStby (undoWord x) else s).took) s

def railCode : Rail → Nat
  | .core => 1
  | .io => 2
  | .usb => 3
  | .adc => 4

/-- One rail more has fallen. When all four have, the power is gone, and what follows is a power-on (R98, log 27). -/
def moreLow (rail : Rail) (l : List Rail) : List Rail :=
  if l.isEmpty || l.contains rail then l else if l.length = 3 then [] else l ++ [rail]

/-- BROWNOUT (R74, R88, R136). While a power-on or brown-out holds the device, one rail more is low. -/
def execBrownout (rail : Rail) (tears recent : Bool) (s : State) : Res State :=
  if s.pwr.phase = .powerOn then
    goOn ((resetPulses tears s).onPwr (fun p => { p with railsLow := moreLow rail p.railsLow }))
  else
    let s1 := if recent then undoStandby s else s
    let s2 := (s1.onStby (fun b => { b with brownRail := railCode rail })).onPwr (fun p =>
      { p with porDone := false, railsLow := [rail] })
    goOn (deviceReset 2 tears s2)

/-- PIN_RESET (R76, R122, R138). While a power-on or brown-out holds the device, the pin acts together with it
(R142). -/
def execPinReset (s : State) : Res State :=
  let low (s : State) : State := s.onPwr (fun p => { p with rstN := false })
  goOn (if s.pwr.phase = .powerOn then joinCause 3 (low s) else deviceReset 3 false (low s))

/-- RST_N_RELEASE (R75). -/
def execRstNRelease (testmode : Bool) (s : State) : Res State :=
  goOn (onlyIf (!s.pwr.rstN) (fun s =>
    tryRelease (s.onPwr (fun p => { p with rstN := true, testmode := testmode }))) s)

/-! ### VIO_C1 and VCONN_IN (R68, R77, R78) -/

/-- C1_MODE_DECISION. After a first rise the bank leaves its reset state; after a fall R77 governs. -/
def execC1ModeDecision (mv : Nat) (s : State) : Res State :=
  goOn (onlyIf (s.pwr.vioOk && s.pwr.vioMode.isNone) (State.onPwr (fun p =>
    { p with vioMode := some (decide (4000 ≤ mv)), c1Reset := p.vioAt.isSome })) s)

/-- VIO_C1_LOW. -/
def execVioC1Low (s : State) : Res State :=
  goOn (onlyIf s.pwr.vioOk (fun s =>
    let s1 := s.onPwr (fun p =>
      { p with vioOk := false, vioMode := none, c1Reset := true, vioAt := if clocked s then some s.tick.now else none })
    if clocked s then raise ⟨0x51, 0x0B, 0⟩ s1 else s1) s)

/-- VIO_C1_RISE. -/
def execVioC1Rise (s : State) : Res State :=
  goOn (onlyIf (!s.pwr.vioOk) (State.onPwr (fun p =>
    { p with vioOk := true, vioAt := p.vioAt.map (fun _ => s.tick.now) })) s)

/-- C1_BANK_RETURN. -/
def execC1BankReturn (s : State) : Res State :=
  goOn (onlyIf (s.pwr.c1Reset && s.pwr.vioOk && s.pwr.vioMode.isSome && clocked s
      && (match s.pwr.vioAt with | some b => decide (b + 64 ≤ s.tick.now) | none => false))
    (State.onPwr (fun p => { p with c1Reset := false, vioAt := none })) s)

/-- VCONN_LOW (R78, R535). -/
def execVconnLow (s : State) : Res State :=
  goOn (onlyIf s.pwr.vconnIn (fun s =>
    let s1 := (s.onPwr (fun p => { p with vconnIn := false })).onTcs (fun l => l.map (fun q =>
      { q with vconn := false, hrVconn := false }))
    if clocked s then raise ⟨0x67, 0x0C, 0⟩ s1 else s1) s)

/-- VCONN_IN_RETURN. -/
def execVconnInReturn (s : State) : Res State := goOn (s.onPwr (fun p => { p with vconnIn := true }))

/-! ### VSTBY (R71, R89, R104) -/

/-- VSTBY_LOSS: the domain's words hold nothing known until VSTBY returns. -/
def execVstbyLoss (s : State) : Res State :=
  let f := s.free
  let w (i : Nat) : W := Config.lostWord (f + i)
  let c := w 528
  let s1 := s.onStby (fun b =>
    { b with
      present := false, prev := []
      bkp := (List.range 16).foldl (fun m i => wrW m i (w i)) []
      sram := (List.range 512).foldl (fun m i => wrW m i (w (16 + i))) []
      por := c.bit 0, brownout := c.bit 1, pin := c.bit 2, soft := c.bit 3, wdog := c.bit 4, shutdown := c.bit 5
      usbrst := c.bit 6, last := c.bits 11 8, brownRail := c.bits 14 12, shutSteps := BitVec.ofNat 7 (c.bits 22 16)
      incomplete := c.bit 24, lost := c.bit 25, restBlocked := c.bit 26 })
  goOn { s1 with free := s.free + 529 }

/-- VSTBY_RETURN, after a loss or late at power-up. -/
def execVstbyReturn (s : State) : Res State := goOn (s.onStby (fun _ => { Stby.reset with lost := true }))

/-! ### Upstream VBUS (R92, R262) -/

/-- The states in which the headgate may hold its pull-up. -/
def pullupPhase (s : State) : Bool :=
  s.pwr.phase = .run || s.pwr.phase = .quiesce || s.pwr.phase = .rest
    || (s.pwr.phase = .shutdown && s.pwr.started && decide (s.pwr.shutStep < 5))

/-- VBUS_PRESENT. -/
def execVbusPresent (s : State) : Res State :=
  goOn (s.onHub (fun h => if pullupPhase s then { h with vbus := true, pullup := true, speed := max 1 h.speed }
    else { h with vbus := true }))

/-- VBUS_ABSENT. -/
def execVbusAbsent (s : State) : Res State :=
  goOn (s.onHub (fun h => { h with vbus := false, pullup := false, speed := 0, susp := false, driveK := false }))

/-! ### Seeding (R106, R110 to R112, R127, R220, R602, R605) -/

/-- A copy of the option bytes passes: no word in double error, the marker, the CRC. -/
def copyWords (s : State) (base : Nat) : List NvmWord := (List.range 512).map (fun i => s.seedWord (base + i))
def copyGood (l : List NvmWord) : Bool :=
  l.all (fun w => w.ecc ≠ .double) && (l.headD erasedWord).data = 0x4F500001
    && (l.getD 511 erasedWord).data = crc32Words ((l.take 511).map NvmWord.data)

/-- A shadow of the words of a copy. -/
def shadowOf (l : List NvmWord) : Store W :=
  ((List.range 512).zip (l.map NvmWord.data)).filter (fun e => e.2 ≠ 0)

/-- SEEDING_DONE: the shadow, the fuse and the safe state; SEED_COPY is held when copy B is used. -/
def execSeedingDone (s : State) : Res State :=
  goOn (onlyIf (s.pwr.phase = .seeding) (fun s =>
    let a := copyWords s 0
    let b := copyWords s 512
    let aOk := copyGood a
    let bOk := copyGood b
    let blown := s.nvm.fBlown || s.nvm.fTorn
    let s1 := s.onNvm (fun n =>
      { n with
        opt := if aOk then shadowOf a else if bOk then shadowOf b else []
        seedCopyHeld := !aOk && bOk
        fBlown := blown, fFail := n.fFail || n.fTorn })
    (s1.onMem (fun m => { m with commons := [] })).onPwr (fun p =>
      { p with
        phase := .seeded, seedBad := !aOk && !bOk, balls := true, factory := p.testmode && !blown, wdogJoin := false })) s)

/-- DOMAIN_RELEASE (R102, R107, R127, R184): the tick starts in FREE, TICK_COUNT from 0. With AUTOLOAD 1 the image
read begins (R226), unless the factory access holds the device in STARTUP (R602). -/
def execDomainRelease (s : State) : Res State :=
  goOn (onlyIf (s.pwr.phase = .seeded) (fun s =>
    let mode := (rdW s.nvm.opt 1).bits 2 1
    let auto := (rdW s.nvm.opt 1).bit 0 && !s.pwr.factory
    (((s.onCfg (fun c => { c with auto := auto, checking := auto })).onPwr (fun p => { p with phase := if p.seedBad then .seedFail else .startup })).onUsb (fun u =>
      { u with mode := BitVec.ofNat 2 mode })).onTick (fun _ => Tick.reset)) s)

/-! ### Resets (R99, R101, R135, R187, R257) -/

/-- USB_SOFT_RESET_ASSERT. -/
def execUsbSoftResetAssert (s : State) : Res State := goOn (onlyIf s.pwr.softUsb (deviceReset 4 false) s)

/-- TICK_WATCHDOG: its count stays in the standby domain until the next boundary (R104). Where another reset asserted at
the same time, it is recorded beside it (R142). -/
def execTickWatchdog (s : State) : Res State :=
  let count (s : State) : State := s.onStby (fun b => { b with wdogCount := 66 })
  goOn (if s.pwr.wdogArmed then deviceReset 5 false (count s)
    else if s.pwr.wdogJoin then (joinCause 5 (count s)).onPwr (fun p => { p with wdogJoin := false })
    else s)

/-- UPSTREAM_BUS_RESET: seen while the pull-up is connected. -/
def execUpstreamBusReset (hs : Bool) (s : State) : Res State := goOn (onlyIf s.hub.pullup (busReset hs) s)

/-! ### Block resets (R132, R133, R339, R384, R535, R589) -/

/-- What the reset of a block clears. -/
def resetBlock (b : Nat) (s : State) : State :=
  match b with
  | 0 => (rewindPeer (fun p => p = 0x40) s).onHub (fun h =>
      { h with speed := 0, susp := false, configured := false, addr := 0, rwake := false, mtt := false, driveK := false })
  | 1 => rewindPeer (fun p => decide (0x41 ≤ p) && decide (p ≤ 0x48)) s
  | 2 => rewindPeer (fun p => decide (0x49 ≤ p) && decide (p ≤ 0x50)) s
  | 3 => forEach [0, 1, 2, 3] (fun t s => resetIds (fun _ => true) t (pdClear 6 t s))
      (rewindPeer (fun p => decide (0x54 ≤ p) && decide (p ≤ 0x57)) s)
  | 4 => (dropAllBufs (rewindPeer (fun p => p = 0x51) s)).onBus (fun _ => C1Bus.reset)
  | 5 => (rewindPeer (fun p => p = 0x52) s).onCulv 1 (fun k => { k with ser := .idle })
  | 6 => (rewindPeer (fun p => p = 0x53) s).onCulv 2 (fun k => { k with ser := .idle })
  | 7 => rewindPeer (fun p => p = 0x59) s
  | 8 => (rewindPeer (fun p => p = 0x58) s).onAdc (fun a => { a with zs := [], rs := [], sets := [] })
  | _ => s

/-- BLOCK_RESET_TAKEN: each requested block is held for this tick, or refused. -/
def execBlockResetTaken (s : State) : Res State :=
  let req := (List.range 10).filter (fun b => s.pwr.blkReq.getLsbD b && !s.pwr.blkHeld.getLsbD b)
  goOn (forEach req (fun b s =>
    let bit := BitVec.ofNat 10 (2 ^ b)
    if (s.pwr.phase = .run || s.pwr.phase = .quiesce) && blkIdle s b then
      resetBlock b (s.onPwr (fun p => { p with blkHeld := p.blkHeld ||| bit }))
    else
      raise ⟨0x66, 0x07, b⟩ (s.onPwr (fun p =>
        { p with blkRefused := p.blkRefused ||| bit, blkReq := p.blkReq &&& ~~~bit }))) s)

/-- BLOCK_RESET_END. A request bit written again while its block is held clears with it: DESIGN CHOICE (log 72). -/
def execBlockResetEnd (s : State) : Res State :=
  goOn (s.onPwr (fun p => { p with blkReq := p.blkReq &&& ~~~p.blkHeld, blkHeld := 0 }))

end Sys2Proof.Machine
end

