-- ==== Sys2Proof/Machine/Tap.lean ====
section
/-! DEFINITION. The commands of the boundary-scan port (chapter 14). No device reset reaches it (R598). -/

namespace Sys2Proof.Machine

/-- The balls of the chain follow the boundary register and no core output reaches them (R601). -/
def scanDrives (s : State) : Bool := s.tap.ir = .extest || s.tap.ir = .highz || s.tap.ir = .clamp

/-- The boundary register stands between JTDI and JTDO (R598). -/
def scanBoundary (s : State) : Bool := s.tap.ir = .extest || s.tap.ir = .sample

/-- Select an instruction whose register captures `v`. -/
def selectTap (i : TapIr) (v : BitVec 177) (s : State) : State := s.onTap (fun t => { t with ir := i, shift := v })

/-- TAP_RESET: IDCODE is selected. -/
def execTapReset (s : State) : Res State := goOn (s.onTap (fun t => { t with ir := .idcode }))

/-- EXTEST: the register captures nothing new; the balls follow the values preloaded or updated before. -/
def execExtest (s : State) : Res State := goOn (s.onTap (fun t => { t with ir := .extest }))

/-- IDCODE (R599). -/
def execIdcode (s : State) : Res State := goOn (selectTap .idcode (Config.idcode.setWidth 177) s)

/-- SAMPLE/PRELOAD: the levels of the balls are captured. -/
def execSamplePreload (levels : BitVec 177) (s : State) : Res State := goOn (selectTap .sample levels s)

/-- HIGHZ. -/
def execHighz (s : State) : Res State := goOn (selectTap .highz 0 s)

/-- CLAMP. -/
def execClamp (s : State) : Res State := goOn (selectTap .clamp 0 s)

/-- FTAP: factory access while it is open, otherwise BYPASS (R602). -/
def execFtap (s : State) : Res State := goOn (selectTap (if s.pwr.factory then .ftap else .bypass) 0 s)

/-- BYPASS. -/
def execBypass (s : State) : Res State := goOn (selectTap .bypass 0 s)

/-- UPDATE_DR: the shifted values load while the boundary register is selected (R601). -/
def execUpdateDr (bits : BitVec 177) (s : State) : Res State :=
  goOn (onlyIf (scanBoundary s) (State.onTap (fun t => { t with shift := bits, upd := bits })) s)

end Sys2Proof.Machine
end

