-- ==== Sys2Proof/Machine/Dispatch.lean ====
section
/-! DEFINITION. The dispatch: one arm per command, each one direct call of its meaning. -/

namespace Sys2Proof.Machine

def exec (i : Instr) (s : State) : Host.Outcome State Fault Refusal :=
  match i with
  | .tickBoundary adc cc => Sys2Proof.Machine.execTickBoundary adc cc s
  | .spateLate p id => Sys2Proof.Machine.execSpateLate p id s
  | .sofCapture cycle frame uf => Sys2Proof.Machine.execSofCapture cycle frame uf s
  | .sofDecision => Sys2Proof.Machine.execSofDecision s
  | .acquireToFree => Sys2Proof.Machine.execAcquireToFree s
  | .stretchTimeout => Sys2Proof.Machine.execStretchTimeout s
  | .fsStretchEnd => Sys2Proof.Machine.execFsStretchEnd s
  | .tickRange => Sys2Proof.Machine.execTickRange s
  | .workItemStart p cycle => Sys2Proof.Machine.execWorkItemStart p cycle s
  | .workItemEnd p cycle reads writes => Sys2Proof.Machine.execWorkItemEnd p cycle reads writes s
  | .plotStatusClr path p => Sys2Proof.Machine.execPlotStatusClr path p s
  | .powerOnRelease testmode => Sys2Proof.Machine.execPowerOnRelease testmode s
  | .brownout rail tears recent => Sys2Proof.Machine.execBrownout rail tears recent s
  | .pinReset => Sys2Proof.Machine.execPinReset s
  | .rstNRelease testmode => Sys2Proof.Machine.execRstNRelease testmode s
  | .c1ModeDecision mv => Sys2Proof.Machine.execC1ModeDecision mv s
  | .vioC1Low => Sys2Proof.Machine.execVioC1Low s
  | .c1BankReturn => Sys2Proof.Machine.execC1BankReturn s
  | .vconnLow => Sys2Proof.Machine.execVconnLow s
  | .vstbyLoss => Sys2Proof.Machine.execVstbyLoss s
  | .vstbyReturn => Sys2Proof.Machine.execVstbyReturn s
  | .vbusPresent => Sys2Proof.Machine.execVbusPresent s
  | .vbusAbsent => Sys2Proof.Machine.execVbusAbsent s
  | .seedingDone => Sys2Proof.Machine.execSeedingDone s
  | .domainRelease => Sys2Proof.Machine.execDomainRelease s
  | .autoload => Sys2Proof.Machine.execAutoload s
  | .furrowsStart => Sys2Proof.Machine.execFurrowsStart s
  | .softReset key => Sys2Proof.Machine.execSoftReset key s
  | .usbSoftResetAssert => Sys2Proof.Machine.execUsbSoftResetAssert s
  | .tickWatchdog => Sys2Proof.Machine.execTickWatchdog s
  | .upstreamBusReset hs => Sys2Proof.Machine.execUpstreamBusReset hs s
  | .blkRstWrite path v => Sys2Proof.Machine.execBlkRstWrite path v s
  | .blockResetTaken => Sys2Proof.Machine.execBlockResetTaken s
  | .blockResetEnd => Sys2Proof.Machine.execBlockResetEnd s
  | .reqRun path restEn => Sys2Proof.Machine.execReqRun path restEn s
  | .reqQuiesce path restEn => Sys2Proof.Machine.execReqQuiesce path restEn s
  | .reqStandby path restEn => Sys2Proof.Machine.execReqStandby path restEn s
  | .quiesceEnter => Sys2Proof.Machine.execQuiesceEnter s
  | .quiesceResume => Sys2Proof.Machine.execQuiesceResume s
  | .restEnter => Sys2Proof.Machine.execRestEnter s
  | .restBlocked => Sys2Proof.Machine.execRestBlocked s
  | .wakeEvent why => Sys2Proof.Machine.execWakeEvent why s
  | .restResume => Sys2Proof.Machine.execRestResume s
  | .shutdownStop => Sys2Proof.Machine.execShutdownStop s
  | .shutdownDrain => Sys2Proof.Machine.execShutdownDrain s
  | .shutdownPorts => Sys2Proof.Machine.execShutdownPorts s
  | .shutdownBuses => Sys2Proof.Machine.execShutdownBuses s
  | .shutdownUpstream => Sys2Proof.Machine.execShutdownUpstream s
  | .shutdownField => Sys2Proof.Machine.execShutdownField s
  | .shutdownStandby => Sys2Proof.Machine.execShutdownStandby s
  | .standbyRestart => Sys2Proof.Machine.execStandbyRestart s
  | .nvmRead path addr => Sys2Proof.Machine.execNvmRead path addr s
  | .nvmWrite path addr => Sys2Proof.Machine.execNvmWrite path addr s
  | .nvmErase path addr => Sys2Proof.Machine.execNvmErase path addr s
  | .nvmWriteDone ok => Sys2Proof.Machine.execNvmWriteDone ok s
  | .nvmEraseDone ok => Sys2Proof.Machine.execNvmEraseDone ok s
  | .tallyWriteFrame cmd data crc clocks => Sys2Proof.Machine.execTallyWriteFrame cmd data crc clocks s
  | .tallyReadFrame cmd crc clocks => Sys2Proof.Machine.execTallyReadFrame cmd crc clocks s
  | .tallyNullFrame => Sys2Proof.Machine.execTallyNullFrame s
  | .tallyFrameTimeout => Sys2Proof.Machine.execTallyFrameTimeout s
  | .hwMsgRead path stage => Sys2Proof.Machine.execHwMsgRead path stage s
  | .iwaWrite path addr => Sys2Proof.Machine.execIwaWrite path addr s
  | .iwdRead path => Sys2Proof.Machine.execIwdRead path s
  | .iwdWrite path v => Sys2Proof.Machine.execIwdWrite path v s
  | .iwdBufferReady path => Sys2Proof.Machine.execIwdBufferReady path s
  | .iwdWriteDrain path => Sys2Proof.Machine.execIwdWriteDrain path s
  | .registerWrite path idx v => Sys2Proof.Machine.execRegisterWrite path idx v s
  | .rdReg wValue wIndex wLength => Sys2Proof.Machine.execRdReg wValue wIndex wLength s
  | .wrReg wValue wIndex wLength v => Sys2Proof.Machine.execWrReg wValue wIndex wLength v s
  | .rdInd wValue wIndex wLength => Sys2Proof.Machine.execRdInd wValue wIndex wLength s
  | .wrInd wValue wIndex wLength ws => Sys2Proof.Machine.execWrInd wValue wIndex wLength ws s
  | .unsupportedVendorRequest bRequest => Sys2Proof.Machine.execUnsupportedVendorRequest bRequest s
  | .cfgOpen path => Sys2Proof.Machine.execCfgOpen path s
  | .cfgCommit path => Sys2Proof.Machine.execCfgCommit path s
  | .commitCheckStart => Sys2Proof.Machine.execCommitCheckStart s
  | .commitCheckEnd => Sys2Proof.Machine.execCommitCheckEnd s
  | .commitApplyQuiesce => Sys2Proof.Machine.execCommitApplyQuiesce s
  | .crcPassEnd => Sys2Proof.Machine.execCrcPassEnd s
  | .cfgWindowExpire => Sys2Proof.Machine.execCfgWindowExpire s
  | .updateLoad => Sys2Proof.Machine.execUpdateLoad s
  | .updateSwap equal => Sys2Proof.Machine.execUpdateSwap equal s
  | .fenceAdd path plot => Sys2Proof.Machine.execFenceAdd path plot s
  | .fenceClear path => Sys2Proof.Machine.execFenceClear path s
  | .fenceRequest path => Sys2Proof.Machine.execFenceRequest path s
  | .fencePause => Sys2Proof.Machine.execFencePause s
  | .fenceApply => Sys2Proof.Machine.execFenceApply s
  | .rotationDue => Sys2Proof.Machine.execRotationDue s
  | .shadowStart => Sys2Proof.Machine.execShadowStart s
  | .shadowCompare equal => Sys2Proof.Machine.execShadowCompare equal s
  | .forceTest path f => Sys2Proof.Machine.execForceTest path f s
  | .furrowTestStart => Sys2Proof.Machine.execFurrowTestStart s
  | .furrowTestComplete => Sys2Proof.Machine.execFurrowTestComplete s
  | .furrowFail cause => Sys2Proof.Machine.execFurrowFail cause s
  | .localStoreError p => Sys2Proof.Machine.execLocalStoreError p s
  | .carryingFurrowFail => Sys2Proof.Machine.execCarryingFurrowFail s
  | .adcCal => Sys2Proof.Machine.execAdcCal s
  | .memtestRequest path => Sys2Proof.Machine.execMemtestRequest path s
  | .memtestDone bad => Sys2Proof.Machine.execMemtestDone bad s
  | .haltWrite path halt period => Sys2Proof.Machine.execHaltWrite path halt period s
  | .tapReset => Sys2Proof.Machine.execTapReset s
  | .extest => Sys2Proof.Machine.execExtest s
  | .idcode => Sys2Proof.Machine.execIdcode s
  | .samplePreload levels => Sys2Proof.Machine.execSamplePreload levels s
  | .highz => Sys2Proof.Machine.execHighz s
  | .clamp => Sys2Proof.Machine.execClamp s
  | .ftap => Sys2Proof.Machine.execFtap s
  | .bypass => Sys2Proof.Machine.execBypass s
  | .fuseArm path key => Sys2Proof.Machine.execFuseArm path key s
  | .fuseArmExpire => Sys2Proof.Machine.execFuseArmExpire s
  | .fuseBlow path key => Sys2Proof.Machine.execFuseBlow path key s
  | .fuseBlowDone blown => Sys2Proof.Machine.execFuseBlowDone blown s
  | .getHubStatus => Sys2Proof.Machine.execGetHubStatus s
  | .clearHubFeature feature => Sys2Proof.Machine.execClearHubFeature feature s
  | .getHubDescriptor => Sys2Proof.Machine.execGetHubDescriptor s
  | .setHubDescriptor => Sys2Proof.Machine.execSetHubDescriptor s
  | .getPortStatus port => Sys2Proof.Machine.execGetPortStatus port s
  | .setPortFeaturePower port => Sys2Proof.Machine.execSetPortFeaturePower port s
  | .setPortFeatureReset port => Sys2Proof.Machine.execSetPortFeatureReset port s
  | .setPortFeatureSuspend port => Sys2Proof.Machine.execSetPortFeatureSuspend port s
  | .setPortFeatureTest port mode => Sys2Proof.Machine.execSetPortFeatureTest port mode s
  | .setPortFeatureIndicator port => Sys2Proof.Machine.execSetPortFeatureIndicator port s
  | .clearPortFeatureEnable port => Sys2Proof.Machine.execClearPortFeatureEnable port s
  | .clearPortFeaturePower port => Sys2Proof.Machine.execClearPortFeaturePower port s
  | .clearPortFeatureSuspend port => Sys2Proof.Machine.execClearPortFeatureSuspend port s
  | .clearPortChange port c => Sys2Proof.Machine.execClearPortChange port c s
  | .clearTtBuffer ttPort dev ep => Sys2Proof.Machine.execClearTtBuffer ttPort dev ep s
  | .resetTt ttPort => Sys2Proof.Machine.execResetTt ttPort s
  | .stopTt ttPort => Sys2Proof.Machine.execStopTt ttPort s
  | .getTtState => Sys2Proof.Machine.execGetTtState s
  | .getDescriptor func kind index => Sys2Proof.Machine.execGetDescriptor func kind index s
  | .setInterface alt => Sys2Proof.Machine.execSetInterface alt s
  | .setConfiguration func v => Sys2Proof.Machine.execSetConfiguration func v s
  | .portActionStart port => Sys2Proof.Machine.execPortActionStart port s
  | .connectDetect port speed => Sys2Proof.Machine.execConnectDetect port speed s
  | .disconnectDetect port => Sys2Proof.Machine.execDisconnectDetect port s
  | .resetDriveEnd port speed => Sys2Proof.Machine.execResetDriveEnd port speed s
  | .deviceResume port => Sys2Proof.Machine.execDeviceResume port s
  | .resumeDriveEnd port => Sys2Proof.Machine.execResumeDriveEnd port s
  | .portError port => Sys2Proof.Machine.execPortError port s
  | .port17Reset => Sys2Proof.Machine.execPort17Reset s
  | .startSplit port dev ep periodic dirIn out => Sys2Proof.Machine.execStartSplit port dev ep periodic dirIn out s
  | .completeSplit port dev ep dirIn => Sys2Proof.Machine.execCompleteSplit port dev ep dirIn s
  | .splitAttemptEnd id res => Sys2Proof.Machine.execSplitAttemptEnd id res s
  | .splitTimeout id => Sys2Proof.Machine.execSplitTimeout id s
  | .periodicSplitTimeout id => Sys2Proof.Machine.execPeriodicSplitTimeout id s
  | .headgateSuspend => Sys2Proof.Machine.execHeadgateSuspend s
  | .remoteWake => Sys2Proof.Machine.execRemoteWake s
  | .setCarve epAddr k => Sys2Proof.Machine.execSetCarve epAddr k s
  | .getCarve epAddr => Sys2Proof.Machine.execGetCarve epAddr s
  | .rackFunctionIn ep how => Sys2Proof.Machine.execRackFunctionIn ep how s
  | .portUsbCountersClr path port => Sys2Proof.Machine.execPortUsbCountersClr path port s
  | .sluiceClaim sl peer cls len => Sys2Proof.Machine.execSluiceClaim sl peer cls len s
  | .claimGrant sl => Sys2Proof.Machine.execClaimGrant sl s
  | .sluiceWrite sl data vb poison last => Sys2Proof.Machine.execSluiceWrite sl data vb poison last s
  | .sluiceTake sl => Sys2Proof.Machine.execSluiceTake sl s
  | .sluicePeek sl => Sys2Proof.Machine.execSluicePeek sl s
  | .dropRemainder sl => Sys2Proof.Machine.execDropRemainder sl s
  | .sluiceRewind sl => Sys2Proof.Machine.execSluiceRewind sl s
  | .sluiceTransfer p => Sys2Proof.Machine.execSluiceTransfer p s
  | .sluiceStale sl => Sys2Proof.Machine.execSluiceStale sl s
  | .culvertRequest spate poison ws => Sys2Proof.Machine.execCulvertRequest spate poison ws s
  | .c1Read spate tag nopf lock unit addr count => Sys2Proof.Machine.execC1Read spate tag nopf lock unit addr count s
  | .c1Write spate tag lock unit addr data => Sys2Proof.Machine.execC1Write spate tag lock unit addr data s
  | .xfer spate c tag idem lock station tx rxLen => Sys2Proof.Machine.execXfer spate c tag idem lock station tx rxLen s
  | .rmw spate tag lock addr andMask orMask => Sys2Proof.Machine.execRmw spate tag lock addr andMask orMask s
  | .semAcq spate c tag base len sem => Sys2Proof.Machine.execSemAcq spate c tag base len sem s
  | .semRel spate c tag sem => Sys2Proof.Machine.execSemRel spate c tag sem s
  | .cancel spate tag target => Sys2Proof.Machine.execCancel spate tag target s
  | .culvertIssue c cycle lock => Sys2Proof.Machine.execCulvertIssue c cycle lock s
  | .c1BurstEnd phases => Sys2Proof.Machine.execC1BurstEnd phases s
  | .c1AckTimeout phases => Sys2Proof.Machine.execC1AckTimeout phases s
  | .c1Grant br lock => Sys2Proof.Machine.execC1Grant br lock s
  | .c1GrantTaken => Sys2Proof.Machine.execC1GrantTaken s
  | .arbNotake => Sys2Proof.Machine.execArbNotake s
  | .tenureEnd br => Sys2Proof.Machine.execTenureEnd br s
  | .serialReplyComplete c chars => Sys2Proof.Machine.execSerialReplyComplete c chars s
  | .replyTimeout c => Sys2Proof.Machine.execReplyTimeout c s
  | .serialRetry c => Sys2Proof.Machine.execSerialRetry c s
  | .opTimeout id => Sys2Proof.Machine.execOpTimeout id s
  | .semTimeout c sem => Sys2Proof.Machine.execSemTimeout c sem s
  | .prefetchStart r => Sys2Proof.Machine.execPrefetchStart r s
  | .prefetchAgeExpire r => Sys2Proof.Machine.execPrefetchAgeExpire r s
  | .foreignAsFall lock => Sys2Proof.Machine.execForeignAsFall lock s
  | .attentionInputChange latn pfail => Sys2Proof.Machine.execAttentionInputChange latn pfail s
  | .beatItem => Sys2Proof.Machine.execBeatItem s
  | .tandBeatReceived head pairWord tickWord crc => Sys2Proof.Machine.execTandBeatReceived head pairWord tickWord crc s
  | .tandMirrorReceived head payload crc => Sys2Proof.Machine.execTandMirrorReceived head payload crc s
  | .fwdReq cls head idWord ws crc => Sys2Proof.Machine.execFwdReq cls head idWord ws crc s
  | .fwdRes head idWord ws crc => Sys2Proof.Machine.execFwdRes head idWord ws crc s
  | .syncBegin head crc => Sys2Proof.Machine.execSyncBegin head crc s
  | .syncEnd head n crc => Sys2Proof.Machine.execSyncEnd head n crc s
  | .syncAck head n crc => Sys2Proof.Machine.execSyncAck head n crc s
  | .handover head crc => Sys2Proof.Machine.execHandover head crc s
  | .tandFrameInvalid => Sys2Proof.Machine.execTandFrameInvalid s
  | .tandResend => Sys2Proof.Machine.execTandResend s
  | .hbPulse => Sys2Proof.Machine.execHbPulse s
  | .hbStuck => Sys2Proof.Machine.execHbStuck s
  | .tandLinkUp => Sys2Proof.Machine.execTandLinkUp s
  | .tandLinkLost => Sys2Proof.Machine.execTandLinkLost s
  | .tandListenEnd => Sys2Proof.Machine.execTandListenEnd s
  | .tandTakeover => Sys2Proof.Machine.execTandTakeover s
  | .tandSelfFence => Sys2Proof.Machine.execTandSelfFence s
  | .tandFencedToListen => Sys2Proof.Machine.execTandFencedToListen s
  | .timedReadDue st index => Sys2Proof.Machine.execTimedReadDue st index s
  | .cadencePacketBuild st => Sys2Proof.Machine.execCadencePacketBuild st s
  | .streamIn st => Sys2Proof.Machine.execStreamIn st s
  | .setAdj wValue adj => Sys2Proof.Machine.execSetAdj wValue adj s
  | .getCadence wValue => Sys2Proof.Machine.execGetCadence wValue s
  | .portCmdOn path port => Sys2Proof.Machine.execPortCmdOn path port s
  | .portCmdOff path port => Sys2Proof.Machine.execPortCmdOff path port s
  | .forceSet path port => Sys2Proof.Machine.execForceSet path port s
  | .forceClr path port => Sys2Proof.Machine.execForceClr path port s
  | .latchClr path port => Sys2Proof.Machine.execLatchClr path port s
  | .railHv path port => Sys2Proof.Machine.execRailHv path port s
  | .rail5v path port => Sys2Proof.Machine.execRail5v path port s
  | .portRequestTaken port => Sys2Proof.Machine.execPortRequestTaken port s
  | .rampEnd port => Sys2Proof.Machine.execRampEnd port s
  | .dischargeEnd port => Sys2Proof.Machine.execDischargeEnd port s
  | .dischargeSlow port => Sys2Proof.Machine.execDischargeSlow port s
  | .wardenSampleSet p => Sys2Proof.Machine.execWardenSampleSet p s
  | .portSlowOc port => Sys2Proof.Machine.execPortSlowOc port s
  | .adcSetDrop p => Sys2Proof.Machine.execAdcSetDrop p s
  | .protectionTrip port cmp cycle => Sys2Proof.Machine.execProtectionTrip port cmp cycle s
  | .tripClassified port => Sys2Proof.Machine.execTripClassified port s
  | .railDone port => Sys2Proof.Machine.execRailDone port s
  | .portRailFail port => Sys2Proof.Machine.execPortRailFail port s
  | .tcAttachWait t => Sys2Proof.Machine.execTcAttachWait t s
  | .tcAttach t => Sys2Proof.Machine.execTcAttach t s
  | .tcDetach t => Sys2Proof.Machine.execTcDetach t s
  | .errorRecoveryEnd t => Sys2Proof.Machine.execErrorRecoveryEnd t s
  | .ccFaultClear t => Sys2Proof.Machine.execCcFaultClear t s
  | .ccOv t => Sys2Proof.Machine.execCcOv t s
  | .send path t => Sys2Proof.Machine.execSend path t s
  | .pdTxStart t => Sys2Proof.Machine.execPdTxStart t s
  | .pdGoodcrcReceived t sop msgId => Sys2Proof.Machine.execPdGoodcrcReceived t sop msgId s
  | .pdGoodcrcTimeout t => Sys2Proof.Machine.execPdGoodcrcTimeout t s
  | .hardReset path t => Sys2Proof.Machine.execHardReset path t s
  | .hrDone t => Sys2Proof.Machine.execHrDone t s
  | .hardResetReceived t => Sys2Proof.Machine.execHardResetReceived t s
  | .hrPowerRemove t => Sys2Proof.Machine.execHrPowerRemove t s
  | .hrPowerRestore t => Sys2Proof.Machine.execHrPowerRestore t s
  | .cableReset path t => Sys2Proof.Machine.execCableReset path t s
  | .pdCancel path t => Sys2Proof.Machine.execPdCancel path t s
  | .rxPop path t => Sys2Proof.Machine.execRxPop path t s
  | .rxFlush path t => Sys2Proof.Machine.execRxFlush path t s
  | .vconnOn path t => Sys2Proof.Machine.execVconnOn path t s
  | .vconnOff path t => Sys2Proof.Machine.execVconnOff path t s
  | .rp path t level => Sys2Proof.Machine.execRp path t level s
  | .amsEnd path t => Sys2Proof.Machine.execAmsEnd path t s
  | .errorRecovery path t => Sys2Proof.Machine.execErrorRecovery path t s
  | .bistCarrier path t => Sys2Proof.Machine.execBistCarrier path t s
  | .sinktxDelayEnd t => Sys2Proof.Machine.execSinktxDelayEnd t s
  | .pdMessageReceived t sop crcOk bytes => Sys2Proof.Machine.execPdMessageReceived t sop crcOk bytes s
  | .vconnOc t => Sys2Proof.Machine.execVconnOc t s
  | .ep4Send t tag sop ams bytes => Sys2Proof.Machine.execEp4Send t tag sop ams bytes s
  | .ep4HardReset t tag => Sys2Proof.Machine.execEp4HardReset t tag s
  | .ep4CableReset t tag => Sys2Proof.Machine.execEp4CableReset t tag s
  | .ep4Cancel t tag => Sys2Proof.Machine.execEp4Cancel t tag s
  | .ep4BistCarrier t tag => Sys2Proof.Machine.execEp4BistCarrier t tag s
  | .eventLatch => Sys2Proof.Machine.execEventLatch s
  | .severeRelease src => Sys2Proof.Machine.execSevereRelease src s
  | .hwQueueClear path => Sys2Proof.Machine.execHwQueueClear path s
  | .injArm path on => Sys2Proof.Machine.execInjArm path on s
  | .faultHoldRelease path => Sys2Proof.Machine.execFaultHoldRelease path s
  | .faultForce path on => Sys2Proof.Machine.execFaultForce path on s
  | .faultMinRunEnd => Sys2Proof.Machine.execFaultMinRunEnd s
  | .safeEnter path key => Sys2Proof.Machine.execSafeEnter path key s
  | .safeRelease path key => Sys2Proof.Machine.execSafeRelease path key s
  | .safeReleaseApply => Sys2Proof.Machine.execSafeReleaseApply s
  | .selfPar word queueOk => Sys2Proof.Machine.execSelfPar word queueOk s
  | .eventRingIn ack => Sys2Proof.Machine.execEventRingIn ack s
  | .setAddress func addr => Sys2Proof.Machine.execSetAddress func addr s
  | .setFeature func => Sys2Proof.Machine.execSetFeature func s
  | .clearFeature func halt => Sys2Proof.Machine.execClearFeature func halt s
  | .headgateResume => Sys2Proof.Machine.execHeadgateResume s
  | .vioC1Rise => Sys2Proof.Machine.execVioC1Rise s
  | .vconnInReturn => Sys2Proof.Machine.execVconnInReturn s
  | .serialFrameEnd c echoBad => Sys2Proof.Machine.execSerialFrameEnd c echoBad s
  | .crDone t => Sys2Proof.Machine.execCrDone t s
  | .bistCarrierEnd t => Sys2Proof.Machine.execBistCarrierEnd t s
  | .updateDr bits => Sys2Proof.Machine.execUpdateDr bits s

end Sys2Proof.Machine
end

