-- ==== Sys2Proof/Machine/Balls.lean ====
section
/-!
DEFINITION. The levels of the output balls (R66, R68, R72, R77, R79 to R82, R88, R109, R125, R132, R386, R463, R557,
R634): the phase of a ball by its bank's supply, the device reset, and the safe state, and the level that the
configuration, a plot or a register gives it. Inputs that a level follows are arguments (log 67).
-/

namespace Sys2Proof.Machine

/-- What stands at a ball: nothing of the device's (absent, or a bank without pull-ups), the weak pull-up of R79 alone,
a driven level, or the signal of the transfer under way. -/
inductive Level where
  | hiZ | pull | low | high | signal
  deriving DecidableEq, Repr

/-- A push-pull output. -/
def drive (b : Bool) : Level := if b then .high else .low
/-- An open-drain output, asserted low (R91). -/
def openDrain (b : Bool) : Level := if b then .low else .pull

/-! ### The phases (R79, R80, R82) -/

/-- VDD_IO is present. While the device is held in a power-on that no brown-out of other rails began, no row tells
which rails have risen, and the bank counts as absent (log 72). -/
def ioPresent (s : State) : Bool :=
  s.pwr.phase ≠ .powerOn || (!s.pwr.railsLow.isEmpty && !s.pwr.railsLow.contains .io)

/-- An IO-bank ball: absent, in its reset state until the safe state is applied, then `l`. -/
def ioBall (s : State) (l : Level) : Level :=
  if !ioPresent s then .hiZ else if !s.pwr.balls then .pull else l

/-- A C1-bank ball: absent without VIO_C1, in its reset state until the bank's mode is decided, after a fall of
VIO_C1 until it returns, and in device reset (R68, R77, R634). -/
def c1Ball (s : State) (l : Level) : Level :=
  if !s.pwr.vioOk then .hiZ else if s.pwr.c1Reset || !s.pwr.balls then .pull else l

/-- The device keeps every ball at its safe level: until the furrows start, in SEED_FAIL, and from step 6 of the
shutdown on (R109, R124, R127). -/
def ballsSafe (s : State) : Bool :=
  s.pwr.phase = .seeded || s.pwr.phase = .startup || s.pwr.phase = .seedFail
    || (s.pwr.phase = .shutdown && (!s.pwr.started || decide (6 ≤ s.pwr.shutStep)))

/-- Block b of R133 is held in reset, with its balls at their safe levels (R132). -/
def blkHeldNow (s : State) (b : Nat) : Bool := s.pwr.blkHeld.getLsbD b

/-! ### The IO bank -/

/-- PWR_ENn is driven high: in RAMP and ON (R463), unless the Hayward holds the port (R557); low from the end of
shutdown step 3 on, whatever the port still does (R125). -/
def pwrOn (s : State) (n : Nat) : Bool :=
  ((s.port n).st = .ramp || (s.port n).st = .on) && !(s.port n).safe && !(s.port n).safeDue
    && !(s.pwr.phase = .shutdown && decide (4 ≤ s.pwr.shutStep))
def pwrEnBall (s : State) (n : Nat) : Level := ioBall s (drive (pwrOn s n && !ballsSafe s))

/-- HV_SELn of DP13 to DP16 (n from 12): high selects the high rail (R463, R480). -/
def hvSelBall (s : State) (n : Nat) : Level :=
  ioBall s (drive ((s.port n).hvSel && !(s.port n).safe && !ballsSafe s))

/-- TICK_OUT in the pulse of the boundary that opened this tick (R36). -/
def tickOutBall (s : State) : Level := ioBall s (drive (s.tick.tickOut && !ballsSafe s))

/-- Culvert c of C2, C3 (1, 2) has its string at rest: safe, or its controller held in reset. -/
def stringSafe (s : State) (c : Nat) : Bool := ballsSafe s || (s.culv c).safe || blkHeldNow s (4 + c)
/-- Cn_DE and Cn_TX (R369, R557). -/
def deBall (s : State) (c : Nat) : Level := ioBall s (drive (deHigh (s.culv c) && !stringSafe s c))
def txBall (s : State) (c : Nat) : Level :=
  ioBall s (if deHigh (s.culv c) && !stringSafe s c then .signal else .high)

/-- ALERT_N and FAULT_N: open drain, released until asserted (R162, R564). -/
def alertBall (s : State) : Level := ioBall s (openDrain (alertDriven s))
def faultBall (s : State) : Level := ioBall s (openDrain (faultDriven s))

/-! ### The C1 bank -/

/-- The C1 controller drives nothing: safe, culvert safe state, controller held in reset. -/
def c1Safe (s : State) : Bool := ballsSafe s || s.culvs.c1.safe || blkHeldNow s 4

/-- C1_D, C1_A, C1_AS_N, C1_DS_N, C1_WR_N and C1_PAR: driven while the C1 CULV plot holds the bus. -/
def c1BusBalls (s : State) : Level := c1Ball s (if s.culvs.bus.held && !c1Safe s then .signal else .pull)

/-- C1_BR_N: pulled low by a member with work and no tenure (R364). -/
def c1BrBall (s : State) : Level :=
  c1Ball s (openDrain (!kArbiter s && c1Work s && !s.culvs.bus.held && !c1Safe s))

/-- C1_LOCK_N. -/
def c1LockBall (s : State) : Level := c1Ball s (openDrain (s.culvs.bus.lockOwn && !c1Safe s))

/-- C1_BG_OUT_N with C1_BG_IN_N at `bgIn`: the safe-state table's choice while nothing sets it or C1 is safe (R81,
R557, R567), the arbiter's grant (R363), or a member's pass or hold (R364). A chip that does not own C1 leaves it at
the safe choice (R344, R402). -/
def bgOutBall (s : State) (bgIn : Bool) : Level :=
  c1Ball s
    (if c1Safe s || s.hay.safeDev || (s.culvPlot 0).isNone || !kEnable s 0 || !tandAllows s then
       (if bgSafeHigh s.nvm.opt then .high else drive bgIn)
     else if kArbiter s then drive (!s.culvs.bus.granting)
     else if c1Work s || s.culvs.bus.held then .high
     else drive bgIn)

/-- HB: pulled low in the pulse of a keeper's beat item (R411). -/
def hbBall (s : State) : Level := c1Ball s (openDrain (s.tand.hbPulse && s.tand.st = .keeper && !ballsSafe s && !s.hay.safeDev))

/-! ### The routing matrix (R386, R387, R398) -/

/-- The matrix works: after the first commit, in RUN, QUIESCE, REST and shutdown steps 1 to 5 (R387). -/
def routeWorks (s : State) : Bool :=
  s.cfg.routeOn && (s.pwr.phase = .run || s.pwr.phase = .quiesce || s.pwr.phase = .rest
    || (s.pwr.phase = .shutdown && s.pwr.started && decide (s.pwr.shutStep < 6)))

/-- An output word of the matrix is asserted by its selected inputs. -/
def routeHit (s : State) (w : W) : Bool := (List.range 9).any (fun k => w.bit k && attnAsserted s k)

/-- ATTN_OUTk; the safe level where the matrix does not work and in the device safe state. -/
def attnOutBall (s : State) (k : Nat) : Level :=
  let safe := match attnSafe s.nvm.opt k with
    | 1 => Level.low
    | 2 => Level.high
    | _ => Level.pull
  let w := rdW s.cfg.route (0x70000 + k)
  let on := routeHit s w
  c1Ball s
    (if !routeWorks s || s.hay.safeDev then safe
     else match w.bits 10 9 with
       | 1 => drive (!on)
       | 2 => drive on
       | 3 => openDrain on
       | _ => .pull)

/-- PFAIL_OUT, which keeps passing in the device safe state. -/
def pfailOutBall (s : State) : Level :=
  let w := rdW s.cfg.route (0x70000 + 8)
  c1Ball s (openDrain (routeWorks s && w.bit 10 && (routeHit s w || (w.bit 9 && s.hay.safeDev))))

/-! ### LINK and USB banks -/

/-- TL_TX: driven while a TAND plot runs, outside the device safe state; this device's driver is off before the safe
state, and while the serialiser is held in reset (R80, R567). -/
def tlTxBall (s : State) : Level :=
  if s.pwr.balls && !ballsSafe s && s.tandPlot.isSome && s.tand.st ≠ .off && !s.hay.safeDev && !blkHeldNow s 7 then .signal
  else .hiZ

/-- The D+ pull-up of UP_DP is connected (R262). -/
def upPullup (s : State) : Bool := s.pwr.balls && s.hub.pullup && !blkHeldNow s 0

/-- The VCONN switch of DP13 + t is closed (R78, R512, R557). -/
def vconnClosed (s : State) (t : Nat) : Bool := s.pwr.balls && s.pwr.vconnIn && (s.tc t).vconn

end Sys2Proof.Machine
end

