-- ==== Sys2Proof/Safety.lean ====
section
/-!
DEFINITION. What the statements say of a run: when a path reaches the registers and what a row that writes one
word through a path leaves (chapter 4), and the invariant of every state a run can meet.
-/

namespace Sys2Proof.Machine

/-! ### Access through a path (R152, R153, R178, R184, R185) -/

/-- A write through the path takes place now: the FCLK domain is released and does not rest; on the USB path the
headgate answers an addressed hub, and USB_MODE gives read and write access. -/
def mayAccess (path : Path) (s : State) : Bool :=
  clocked s && s.pwr.phase ≠ .rest
    && (match path with
      | .tally => true
      | .usb => s.hub.pullup && !s.hub.susp && s.hub.addr ≠ 0 && s.usb.mode = 2)

/-- The state a frame or request acts on: a read that an earlier frame held is over, the standby words of the frame or
request before are held, and over USB the request is under way. -/
def shown (path : Path) (s : State) : State :=
  let t := { s with stby := { s.stby with prev := [] } }
  match path with
  | .tally => { t with tally := { s.tally with hold := false, holdMsg := false } }
  | .usb => { t with usb := { s.usb with active := true } }

/-- A write whose outcome is OK, whose effect is `f`: on the tally path the frame is counted with OUT = OK; on the
USB path the request is acknowledged, USB_LAST is OK, and USB_WROTE is set where the write changed something (R216). -/
def accessed (path : Path) (f : State → State) (s : State) : State :=
  let t := f (shown path s)
  match path with
  | .tally => { t with tally := { t.tally with last := .ok } }
  | .usb =>
    { t with usb := { t.usb with
        last := .ok, wrote := t.usb.wrote || changed (shown .usb s) t, active := false, resp := ⟨.ack, [], []⟩ } }

/-- A write that is turned away with outcome `o`, one of UNMAPPED, DENIED and LOCKED: nothing but the outcome and its
sticky flag is left (R153, R192, R194); on the USB path the request is answered with STALL (R638). -/
def turnedAway (path : Path) (o : Outc) (s : State) : State :=
  let t := shown path s
  match path with
  | .tally =>
    { t with tally := { t.tally with
        last := o, unmapped := s.tally.unmapped || o = .unmapped
        denied := s.tally.denied || o = .denied, lockedWr := s.tally.lockedWr || o = .locked } }
  | .usb =>
    { t with usb := { t.usb with
        last := o, denied := s.usb.denied || o = .denied || o = .locked, active := false, resp := ⟨.stall, [], []⟩ } }

/-- The headgate answers vendor requests: connected, not suspended, addressed, and USB_MODE gives access (R178, R184). -/
def vendorUp (s : State) : Bool :=
  s.hub.pullup && !s.hub.susp && clocked s && s.hub.addr ≠ 0 && (s.usb.mode = 1 || s.usb.mode = 2)

/-! ### Device reset (R98 to R101, R104, R130, R598) -/

/-- A device reset from `s` left `t`: every part at its value after reset but the standby domain, the store and the
pulses of the NVM, the fuse, the boundary scan, and the levels the world holds on the balls. -/
structure ResetDone (s t : State) : Prop where
  tick : t.tick = Tick.reset
  plots : t.plots = (List.range 63).map Plot.reset
  field : t.field = Field.reset
  tally : t.tally = Tally.reset
  wins : t.tWin = Win.reset ∧ t.uWin = Win.reset
  usb : t.usb = UsbAcc.reset
  cfg : t.cfg = Cfg.reset
  nvm : (t.nvm.addr, t.nvm.data, t.nvm.opt, [t.nvm.done, t.nvm.err, t.nvm.keyErr, t.nvm.refused, t.nvm.ecc1, t.nvm.ecc2,
    t.nvm.fArmed, t.nvm.fFail, t.nvm.fRefused]) = (0, 0, [], List.replicate 9 false)
  fuse : t.nvm.fBlown = s.nvm.fBlown ∧ t.nvm.fBusy = s.nvm.fBusy
  mem : t.mem = Mem.reset
  sluices : t.sluices = []
  hub : t.hub = { Hub.reset with vbus := s.hub.vbus }
  culvs : t.culvs = { Culvs.reset with latn := s.culvs.latn, pfail := s.culvs.pfail }
  tand : t.tand = Tand.reset
  cads : t.cads = List.replicate 8 Stream.reset
  ports : t.ports = List.replicate 16 PPort.reset
  adc : t.adc = Adc.reset
  tcs : t.tcs = List.replicate 4 TcPort.reset
  hay : t.hay = Hay.reset
  tap : t.tap = s.tap
  vio : t.pwr.vioOk = s.pwr.vioOk ∧ t.pwr.vioMode = s.pwr.vioMode ∧ t.pwr.vconnIn = s.pwr.vconnIn
  pending : t.pending = s.pending

/-! ### The invariant -/

/-- The device keeps its 63 plots, 64 furrows, 16 ports, 17 hub ports, 4 Type-C ports and 8 streams (R17, R18, R256,
R442, R498); the message queue and the event ring keep to their 64 places (R550, R551); the frame counters stay in
8 bits (R200); the commons, the ledger, the sluices, the configuration space and the standby words keep their canonical
form (log 10). -/
structure State.Inv (s : State) : Prop where
  plots : s.plots.length = 63
  furrows : s.field.map.length = 64
  ports : s.ports.length = 16
  hubPorts : s.hub.ports.length = 17
  tcs : s.tcs.length = 4
  cads : s.cads.length = 8
  queue : s.hay.queue.length ≤ 64
  ring : s.hub.ring.length ≤ 64
  crcCnt : s.tally.crcCnt ≤ 255
  malCnt : s.tally.malCnt ≤ 255
  commons : wfStore zeroWord s.mem.commons = true
  ledger : wfStore noEntry s.mem.ledger = true
  sluices : wfStore Sluice.empty s.sluices = true
  space : wfStore 0 s.cfg.space = true
  bkp : wfStore 0 s.stby.bkp = true
  sram : wfStore 0 s.stby.sram = true

end Sys2Proof.Machine
end

