-- ==== Sys2Proof/Certificates/Slice0/Obligations.lean ====
section
/-!
DEFINITION. The statements for the provers. A conclusion `exec c s = .next { s with … }` is result and frame in
one: whatever the update does not name is unchanged. `t = { s with x := t.x }` says that nothing but x changed.
The guard of a command of the device's own is the situation in which the happening can occur (log 2).
-/

open Sys2Proof Sys2Proof.Machine

/-! ### The machine -/

/-- A step takes the command at the front of the queue and runs it on the state with the queue's rest. That an empty
queue idles is the model's choice (log 1). -/
def Obligations.StepTakesFront : Prop :=
  (∀ (c : Instr) (rest : List Instr) (s : State),
    step { s with pending := c :: rest } = exec c { s with pending := rest })
  ∧ ∀ s : State, s.pending = [] → step s = .next s

/-- The state after reset, in the values the spec gives (R21, R25, R27, R60, R61, R63, R64, R202, R203, R205, R208,
R213, R341, R497, R549). Values of log 4 and log 5 are not stated. -/
def Obligations.ResetState : Prop :=
  State.reset.tick.count = 0 ∧ State.reset.tick.st = .free ∧ State.reset.tick.frame = 0 ∧ State.reset.tick.uframe = 0
  ∧ State.reset.tick.curTrim = 0 ∧ State.reset.tick.freeTrim = 0 ∧ State.reset.tick.toutMode = 0
  ∧ State.reset.tick.holdLast = true
  ∧ [State.reset.tick.sofMiss, State.reset.tick.restep, State.reset.tick.range, State.reset.tick.ovrAny]
      = List.replicate 4 false
  ∧ State.reset.field.map = (List.range 63).map (fun f => ⟨f, .carrying⟩) ++ [⟨63, .fallow⟩]
  ∧ State.reset.plots.map (fun p => (p.furrow, p.shadowed, p.fenced, p.epoch, p.lastUsed, p.lastSpate, p.ovrCnt, p.spxCnt))
      = (List.range 63).map (fun f => (f, false, false, 0, 0, 0, 0, 0))
  ∧ State.reset.field.period = 0x10 ∧ State.reset.field.halt = false
  ∧ State.reset.cfg.isOpen = false ∧ State.reset.cfg.ref = 0 ∧ State.reset.cfg.crc = 0 ∧ State.reset.cfg.epoch = 0
  ∧ State.reset.hay.fmin = 0x14 ∧ State.reset.hay.queue = [] ∧ State.reset.hay.hold = false
  ∧ State.reset.hay.alertEn = 0 ∧ State.reset.tally.lcrc = false ∧ State.reset.tally.last = .none
  ∧ State.reset.sluices = []
  ∧ (∀ p ∈ State.reset.ports, p.st = .off ∧ p.latch = .none ∧ p.evt = 0 ∧ p.trips = 0)
  ∧ State.reset.pending = []

/-- The invariant holds after reset. -/
def Obligations.ResetInv : Prop := State.reset.Inv

/-- Every step keeps the invariant: no command changes the number of plots, furrows, ports, hub ports, Type-C ports or
streams, overfills the message queue or the event ring, pushes a frame counter past 255, or leaves the commons, the
configuration space or the standby words in another than their canonical form. -/
def Obligations.StepKeepsInv : Prop := ∀ s t : State, s.Inv → step s = .next t → t.Inv

/-- A blown fuse stays blown: no command and no reset makes the field fuse whole again (R215, R603). -/
def Obligations.FuseStaysBlown : Prop :=
  ∀ s t : State, s.nvm.fBlown = true → step s = .next t → t.nvm.fBlown = true

/-! ### The tick generator and the field -/

/-- SOF_CAPTURE (R26 to R29, R35, R636, R637). In window: the SOF belongs to its boundary and its numbers load, at once
or at that boundary. Out of window: LOCKED goes to HOLDOVER at the boundary that ends the tick, every other state
stretches the tick and goes to ACQUIRE. In a stretched tick at high speed the SOF ends it, never before cycle 30,000. At high speed every boundary expects a
SOF, and the phase error is measured from the nearest one. -/
def Obligations.SofCapture : Prop :=
  ∀ (c : Nat) (fr : BitVec 11) (uf : BitVec 3) (s : State),
    clocked s = true → s.pwr.phase ≠ .rest → s.hub.pullup = true →
    (∀ h, s.tick.stretch = some h →
      exec (.sofCapture c fr uf) s = .next (if s.hub.speed ≠ 1 ∧ h.endAt = none then
        { s with tick := { s.tick with
            stretch := some ⟨h.cause, some (max c 30000), true⟩, sofNext := some ⟨0, fr, uf⟩ } } else s))
    ∧ (s.tick.stretch = none → (phaseError s c).natAbs ≤ 120 →
      exec (.sofCapture c fr uf) s = .next (if 0 ≤ phaseError s c then
        { s with tick := { s.tick with
            sofNow := some ⟨phaseError s c, fr, sofUf s uf⟩, frame := fr, uframe := sofUf s uf } }
        else { s with tick := { s.tick with sofNext := some ⟨phaseError s c, fr, sofUf s uf⟩ } }))
    ∧ (s.tick.stretch = none → 120 < (phaseError s c).natAbs → s.tick.st = .locked →
      exec (.sofCapture c fr uf) s = .next { s with tick := { s.tick with pendSt := some .holdover } })
    ∧ (s.tick.stretch = none → 120 < (phaseError s c).natAbs → s.tick.st ≠ .locked →
      ∃ t, exec (.sofCapture c fr uf) s = .next t
        ∧ t.tick.stretch = some ⟨c, none, false⟩ ∧ t.tick.pendSt = some .acquire ∧ t.tick.inWin = 0
        ∧ t.tick.missRun = (if s.tick.st = .acquire then s.tick.missRun else 0)
        ∧ t.tick.st = s.tick.st ∧ t.tick.count = s.tick.count ∧ t.tick.curTrim = s.tick.curTrim
        ∧ t = { s with tick := t.tick })
    ∧ (s.hub.speed = 2 → c < 30000 → (c ≤ 15000 → phaseError s c = c) ∧ (15000 < c → phaseError s c = (c : Int) - 30000))

/-- SOF_DECISION (R27, R28, R33, R637): the state at an expecting boundary, by whether a SOF in window belongs to it. A
SOF steers the trim in LOCKED and ACQUIRE by at most 4 ppm, 128 units, and never past 1,000 ppm; a LOCKED boundary
without one takes the trim of HOLDOVER. -/
def Obligations.SofDecision : Prop :=
  ∀ s : State, clocked s = true → s.pwr.phase ≠ .rest → s.tick.decided = false → expecting s = true →
    ∃ t, exec .sofDecision s = .next t ∧ t.tick.decided = true
      ∧ t = { s with tick := t.tick, cads := t.cads, free := t.free }
      ∧ t.tick.count = s.tick.count ∧ t.tick.frame = s.tick.frame ∧ t.tick.uframe = s.tick.uframe
      ∧ (s.tick.sofNow.isSome = true →
          t.tick.st = (match s.tick.st with
            | .free => .acquire
            | .acquire => if 1 ≤ s.tick.inWin then .locked else .acquire
            | .locked => .locked
            | .holdover => .locked)
          ∧ t.tick.sofMiss = s.tick.sofMiss
          ∧ (s.tick.curTrim.toInt.natAbs ≤ 32000 →
              (t.tick.curTrim.toInt - s.tick.curTrim.toInt).natAbs ≤ 128 ∧ t.tick.curTrim.toInt.natAbs ≤ 32000))
      ∧ (s.tick.sofNow = none →
          t.tick.st = (match s.tick.st with
            | .locked => .holdover
            | x => x)
          ∧ t.tick.sofMiss = true
          ∧ (s.tick.st = .acquire → t.tick.missRun = s.tick.missRun + 1 ∧ t.tick.inWin = 0)
          ∧ t.tick.curTrim = (if s.tick.st = .locked then
              (if s.tick.holdLast then s.tick.lastLocked else s.tick.freeTrim.signExtend 16 * 8) else s.tick.curTrim))

/-- ACQUIRE_TO_FREE, STRETCH_TIMEOUT, FS_STRETCH_END and TICK_RANGE (R27, R29, R32, R33, R636). -/
def Obligations.TickGeneratorRows : Prop :=
  ∀ s : State,
    (s.tick.st = .acquire → 8 ≤ s.tick.missRun →
      ∃ t, exec .acquireToFree s = .next t ∧ t.tick.st = .free ∧ t.tick.curTrim = s.tick.freeTrim.signExtend 16 * 8
        ∧ t.tick.count = s.tick.count ∧ t = { s with tick := t.tick, cads := t.cads })
    ∧ (∀ h, s.tick.stretch = some h → h.endAt = none → s.hub.speed ≠ 1 →
      exec .stretchTimeout s = .next { s with tick := { s.tick with
        stretch := some { h with endAt := some 60000 }, sofMiss := true, inWin := 0, missRun := s.tick.missRun + 1 } })
    ∧ (∀ h, s.tick.stretch = some h → h.endAt = none → s.hub.speed = 1 →
      exec .fsStretchEnd s = .next { s with tick := { s.tick with
        stretch := some { h with endAt := some (h.cause + 30000) } } })
    ∧ (64 ≤ s.tick.rangeTicks →
      exec .tickRange s = .next { s with
        tick := { s.tick with range := true, rangeTicks := s.tick.rangeTicks - 64 }
        hay := { s.hay with raised := s.hay.raised ++ [⟨0x60, 0x04, 0⟩] } })

/-- TICK_BOUNDARY of a device that does not rest (R25, R29, R35, R36, R38, R637): TICK_COUNT increments, whatever the
length of the tick that ends; the numbers come from the SOF captured before the boundary or advance by one
microframe; a state change that waited takes effect; a stretched tick sets RESTEP.

TICK_BOUNDARY in REST (R43, R118, R635): TICK_COUNT and the numbers advance by one microframe, SOF_MISS is set, and
no use counter is latched. -/
def Obligations.TickBoundary : Prop :=
  (∀ (adc : List (BitVec 12)) (cc : List (CcLevel × CcLevel)) (s : State),
    adc.length = 34 → cc.length = 4 → clocked s = true → s.pwr.phase ≠ .rest → stretchOpen s = false →
    ∃ t, exec (.tickBoundary adc cc) s = .next t
      ∧ t.tick.count = s.tick.count + 1
      ∧ t.tick.st = s.tick.pendSt.getD s.tick.st
      ∧ (∀ x, s.tick.sofNext = some x → t.tick.frame = x.frame ∧ t.tick.uframe = x.uf)
      ∧ (s.tick.sofNext = none → t.tick.uframe = s.tick.uframe + 1
          ∧ t.tick.frame = (if s.tick.uframe = 7 then s.tick.frame + 1 else s.tick.frame))
      ∧ t.tick.restep = (s.tick.restep || s.tick.stretch.isSome)
      ∧ t.tick.stretch = none
      ∧ t.tick.tickOut = (match t.tick.toutMode.toNat with
          | 1 => true
          | 2 => t.tick.uframe = 0
          | 3 => t.tick.st = .locked || t.tick.st = .holdover
          | _ => false)
      ∧ t.stby.wdogCount = 0)
  ∧ (∀ (adc : List (BitVec 12)) (cc : List (CcLevel × CcLevel)) (s : State),
    (adc.length ≠ 34 ∨ cc.length ≠ 4 → exec (.tickBoundary adc cc) s = .fault .malformedWorld)
    ∧ (adc.length = 34 → cc.length = 4 → s.pwr.phase = .rest → s.tick.stretch = none →
    ∃ t, exec (.tickBoundary adc cc) s = .next t
      ∧ t.tick.count = s.tick.count + 1 ∧ t.tick.now = s.tick.now + 1
      ∧ t.tick.uframe = s.tick.uframe + 1
      ∧ t.tick.frame = (if s.tick.uframe = 7 then s.tick.frame + 1 else s.tick.frame)
      ∧ t.tick.sofMiss = true ∧ t.tick.st = s.tick.st
      ∧ t.tick.tickOut = (s.tick.toutMode = 1 || (s.tick.toutMode = 2 && s.tick.uframe = 7))
      ∧ t.plots.map (fun p => (p.lastUsed, p.lastSpate, p.peakUsed, p.peakSpate))
          = s.plots.map (fun p => (p.lastUsed, p.lastSpate, p.peakUsed, p.peakSpate))
      ∧ t.stby.wdogCount = 0))

/-- At a boundary that ends a tick of the field, the counts of Pp are latched and cleared, the peaks follow, an item still
running is rolled back to the front of the ready items, counted as an overrun and raised, and Spate use above the
reservation is counted and raised (R42, R43, R51, R53). -/
def Obligations.BoundaryLatchesCounts : Prop :=
  ∀ (p : Nat) (s : State), s.plots.length = 63 → p < 63 →
    let q := s.plot p
    let q' := (boundaryPlot p s).plot p
    let extra := match q.running with | some r => 30000 - r.start | none => 0
    let extraSpate := match q.running with | some r => if r.cls = .spate then 30000 - r.start else 0 | none => 0
    q'.lastUsed = q.used + extra ∧ q'.lastSpate = q.spate + extraSpate ∧ q'.used = 0 ∧ q'.spate = 0
    ∧ q'.peakUsed = max q.peakUsed q'.lastUsed ∧ q'.peakSpate = max q.peakSpate q'.lastSpate
    ∧ q'.running = none
    ∧ q'.ready = (match q.running with | some r => [r.item] | none => []) ++ q.ready
    ∧ q'.ovrCnt = (if q.running.isSome then satInc q.ovrCnt 65535 else q.ovrCnt)
    ∧ q'.spxCnt = (if cSpateRes q.wc p < q'.lastSpate then satInc q.spxCnt 255 else q.spxCnt)
    ∧ (cSpateRes q.wc p < q'.lastSpate → (⟨p + 1, 0x02, q'.lastSpate⟩ : Event) ∈ (boundaryPlot p s).hay.raised)
    ∧ (∀ r, q.running = some r → (⟨p + 1, 0x01, r.item.kind⟩ : Event) ∈ (boundaryPlot p s).hay.raised)
    ∧ ∀ j, j ≠ p → (boundaryPlot p s).plot j = s.plot j

/-- WORK_ITEM_START, WORK_ITEM_END and SPATE_LATE (R6, R30, R41, R42, R55, R58, R316, R438). An item starts only where it
ends inside its slot and before the boundary; a plot where none can start, that does not run, or whose item is still
under way starts none. When an item ends, its cycles are counted and its staged takes and writes take effect: a word
written holds the data of its last write, marked where that write, or a word it rests on, carries a mark; a word read in
double error is marked. No item ends beyond cycle 30,000. An operation of class Spate that was not emitted by the second
boundary after its opening is late, be it open or closed without having been carried out. -/
def Obligations.WorkItemRows : Prop :=
  (∀ (p : PlotId) (c : Nat) (s : State) (r : Running), startable s p.val c = some r → plotRuns s p.val = true →
      (s.plot p.val).running = none →
      exec (.workItemStart p c) s = .next { s with plots := updNth s.plots p.val (fun q =>
        { q with running := some r, ready := q.ready.erase r.item }) }
      ∧ r.start = c ∧ c + cCost (s.plot p.val).wc p.val r.item.kind ≤ 30000
      ∧ r.item ∈ (s.plot p.val).ready)
  ∧ (∀ (p : PlotId) (c : Nat) (s : State),
      startable s p.val c = none ∨ plotRuns s p.val = false ∨ (s.plot p.val).running.isSome = true →
      exec (.workItemStart p c) s = .next s)
  ∧ (∀ (p : PlotId) (c : Nat) (rds : List (BitVec 16)) (wrs : List CommonsWrite) (s : State),
      (s.plot p.val).running = none ∨ 30000 < c → exec (.workItemEnd p c rds wrs) s = .next s)
  ∧ (∀ (p : PlotId) (c : Nat) (rds : List (BitVec 16)) (wrs : List CommonsWrite) (s : State) (r : Running),
      s.plots.length = 63 → wfStore Sluice.empty s.sluices = true → wfStore zeroWord s.mem.commons = true →
      (s.plot p.val).running = some r → c ≤ 30000 →
      let seen := (rds ++ wrs.flatMap CommonsWrite.srcs).map BitVec.toNat
      let held (b : Nat) : CWord :=
        if seen.contains b && (s.cword b).err = .double then { s.cword b with poison := true } else s.cword b
      ∃ t, exec (.workItemEnd p c rds wrs) s = .next t
        ∧ (t.plot p.val).running = none
        ∧ (t.plot p.val).used = (s.plot p.val).used + (c - r.start)
        ∧ (t.plot p.val).spate = (s.plot p.val).spate + (if r.cls = .spate then c - r.start else 0)
        ∧ (t.sluice (2 * p.val)).staged = 0 ∧ (t.sluice (2 * p.val + 1)).stagedWr = []
        ∧ t.tick = s.tick ∧ t.cfg = s.cfg ∧ t.ports = s.ports
        ∧ (∀ b, (∀ x ∈ wrs, x.word.toNat ≠ b) → t.cword b = held b)
        ∧ (∀ pre x post, wrs = pre ++ x :: post → (∀ y ∈ post, y.word ≠ x.word) → s.hay.injArm = false →
            t.cword x.word.toNat
              = ⟨x.data, x.poison || x.srcs.any (fun a => (held a.toNat).poison), .good⟩))
  ∧ (∀ (p : PlotId) (id : BitVec 14) (s : State),
      (s.entry id.toNat).opn = true ∨ (s.entry id.toNat).close ≠ .ok → (s.entry id.toNat).cls = .spate →
      (s.entry id.toNat).owner = p.val → (s.entry id.toNat).emitted = false → (s.entry id.toNat).late = false →
      (s.entry id.toNat).openAt + 2 ≤ s.tick.now → wfStore noEntry s.mem.ledger = true →
      ∃ t, exec (.spateLate p id) s = .next t ∧ (t.entry id.toNat).late = true
        ∧ t.hay = { s.hay with raised := s.hay.raised ++ [⟨p.val + 1, 0x03, id.toNat⟩] }
        ∧ t = { s with mem := t.mem, hay := t.hay })

/-! ### Supplies, seeding, resets and power states -/

/-- POWER_ON_RELEASE, RST_N_RELEASE and STANDBY_RESTART release reset into seeding; RST_N low or a pulse of the seed store
or the fuse holds it (R75, R130, R138). That a power-on no brown-out began, or in which every rail fell, records POR is the model's reading (log 27). -/
def Obligations.ResetRelease : Prop :=
  ∀ (tm : Bool) (s : State),
    let free := s.nvm.op.isNone && !s.nvm.fBusy
    (s.pwr.phase = .powerOn →
      exec (.powerOnRelease tm) s = .next { s with
        pwr := { s.pwr with
          porDone := true, railsLow := [], testmode := tm, phase := if s.pwr.rstN && free then .seeding else .held }
        stby := if s.pwr.railsLow = [] then { s.stby with por := true, last := 1 } else s.stby })
    ∧ (s.pwr.rstN = false →
      exec (.rstNRelease tm) s = .next { s with pwr := { s.pwr with
        rstN := true, testmode := tm
        phase := if !s.pwr.porDone then .powerOn else if free then .seeding else .held } })
    ∧ (s.pwr.phase = .standby → s.pwr.runRecorded = true →
      exec .standbyRestart s = .next { s with pwr := { s.pwr with
        runRecorded := false
        phase := if !s.pwr.porDone then .powerOn else if s.pwr.rstN && free then .seeding else .held } })

/-- SEEDING_DONE (R110 to R112, R127, R602, R605): the shadow is copy A, or copy B where A fails, or all zeros where
both fail; the commons is zero; a fuse whose margins disagree reads as blown.

DOMAIN_RELEASE (R102, R107, R127, R184): the domains leave reset, the tick generator starts in FREE with
TICK_COUNT 0, USB_MODE takes its option bits; with both copies failed the device is in SEED_FAIL. -/
def Obligations.SeedingAndRelease : Prop :=
  (∀ s : State, s.pwr.phase = .seeding →
    let a := copyGood (copyWords s 0)
    let b := copyGood (copyWords s 512)
    ∃ t, exec .seedingDone s = .next t
      ∧ (∀ k < 512, rdW t.nvm.opt k =
          if a then (s.seedWord k).data else if b then (s.seedWord (512 + k)).data else 0)
      ∧ t.nvm.seedCopyHeld = (!a && b)
      ∧ t.nvm.fBlown = (s.nvm.fBlown || s.nvm.fTorn)
      ∧ (∀ k, t.cword k = zeroWord)
      ∧ t.pwr = { s.pwr with
          phase := .seeded, seedBad := !a && !b, balls := true, factory := s.pwr.testmode && !t.nvm.fBlown
          wdogJoin := false }
      ∧ t = { s with nvm := t.nvm, mem := t.mem, pwr := t.pwr }
      ∧ t.nvm.store = s.nvm.store ∧ t.mem.ledger = s.mem.ledger)
  ∧ (∀ s : State, s.pwr.phase = .seeded →
    ∃ t, exec .domainRelease s = .next t
      ∧ t.tick = Tick.reset ∧ t.tick.st = .free ∧ t.tick.count = 0
      ∧ t.pwr = { s.pwr with phase := if s.pwr.seedBad then .seedFail else .startup }
      ∧ t.usb = { s.usb with mode := BitVec.ofNat 2 ((rdW s.nvm.opt 1).bits 2 1) }
      ∧ t.cfg = { s.cfg with
          auto := (rdW s.nvm.opt 1).bit 0 && !s.pwr.factory, checking := (rdW s.nvm.opt 1).bit 0 && !s.pwr.factory }
      ∧ t = { s with tick := t.tick, pwr := t.pwr, usb := t.usb, cfg := t.cfg })

/-- The five device resets (R74, R76, R98 to R100, R104, R135, R141, R187): which parts take their reset value, and what
RST_CAUSE records. The standby words stay; RST_N low holds the device in reset. RST_N low while a power-on or brown-out
holds the device is recorded beside it, and so is the tick watchdog that expires with another reset (R98, R142). -/
def Obligations.DeviceResets : Prop :=
  ∀ (s : State),
    (s.pwr.phase ≠ .powerOn →
      ∃ t, exec .pinReset s = .next t ∧ ResetDone s t
        ∧ t.stby = { s.stby with pin := true, last := 3 } ∧ t.pwr.rstN = false
        ∧ t.pwr.phase = (if s.pwr.porDone then .held else .powerOn))
    ∧ (s.pwr.phase = .powerOn →
      exec .pinReset s = .next { s with
        pwr := { s.pwr with rstN := false }
        stby := { s.stby with
          pin := true, last := if s.stby.last ≠ 0 ∧ causeRank s.stby.last < 3 then s.stby.last else 3 } })
    ∧ (∀ (rail : Rail) (tears : Bool), s.pwr.phase ≠ .powerOn →
      ∃ t, exec (.brownout rail tears false) s = .next t ∧ ResetDone s t
        ∧ t.stby = { s.stby with brownout := true, last := 2, brownRail := (match rail with
            | .core => 1
            | .io => 2
            | .usb => 3
            | .adc => 4) }
        ∧ t.pwr.porDone = false ∧ t.pwr.phase = .powerOn)
    ∧ (∀ (rail : Rail) (tears recent : Bool), s.pwr.phase = .powerOn → s.nvm.op = none → s.nvm.fBusy = false →
      exec (.brownout rail tears recent) s
        = .next { s with pwr := { s.pwr with railsLow := moreLow rail s.pwr.railsLow } })
    ∧ (s.pwr.softUsb = true →
      ∃ t, exec .usbSoftResetAssert s = .next t ∧ ResetDone s t
        ∧ t.stby = { s.stby with soft := true, last := 4 })
    ∧ (s.pwr.wdogArmed = true →
      ∃ t, exec .tickWatchdog s = .next t ∧ ResetDone s t
        ∧ t.stby = { s.stby with wdog := true, last := 5, wdogCount := 66 })
    ∧ (s.pwr.wdogArmed = false → s.pwr.wdogJoin = true →
      exec .tickWatchdog s = .next { s with
        pwr := { s.pwr with wdogJoin := false }
        stby := { s.stby with
          wdog := true, wdogCount := 66
          last := if s.stby.last ≠ 0 ∧ causeRank s.stby.last < 4 then s.stby.last else 5 } })
    ∧ (clocked s = true →
      ∃ t, exec (.softReset 0x7A11) s = .next t ∧ ResetDone s t
        ∧ t.stby = { s.stby with soft := true, last := 4, prev := [] })
    ∧ (∀ key : BitVec 16, mayAccess .tally s = true → key ≠ 0x7A11 →
      exec (.softReset key) s = .next (accessed .tally id s))

/-- What a device reset does to a command of the seed store and to a blow pulse, and what a brown-out close to a standby
write leaves (R74, R105, R130, R131, R605): a write pulse goes on and holds reset release; an erase is cut, and
only words of its sector can change; of a torn write only its word; of the standby words only those of the last
request or frame, each of which holds its old value or its new one. -/
def Obligations.PulsesAtReset : Prop :=
  ∀ (s : State), wfStore erasedWord s.nvm.store = true → s.pwr.phase ≠ .powerOn →
    (∀ t, exec .pinReset s = .next t →
      (s.nvm.op = none → t.nvm.store = s.nvm.store ∧ t.nvm.op = none)
      ∧ (∀ a v, s.nvm.op = some (.write, a, v) → t.nvm.store = s.nvm.store ∧ t.nvm.op = s.nvm.op
          ∧ t.pwr.phase ≠ .seeding)
      ∧ (∀ a v, s.nvm.op = some (.erase, a, v) → t.nvm.op = none
          ∧ ∀ b, b / 512 ≠ a / 512 → t.seedWord b = s.seedWord b)
      ∧ t.nvm.fTorn = s.nvm.fTorn ∧ t.nvm.fCut = s.nvm.fBusy)
    ∧ ∀ rail tears recent, ∃ t, exec (.brownout rail tears recent) s = .next t
      ∧ (∀ a v, s.nvm.op = some (.write, a, v) → tears = true → t.nvm.op = none
          ∧ ∀ b, b ≠ a → t.seedWord b = s.seedWord b)
      ∧ (tears = false → t.nvm.fTorn = s.nvm.fTorn)
      ∧ (wfStore 0 s.stby.bkp = true → wfStore 0 s.stby.sram = true →
          (∀ k, rdW t.stby.bkp k = rdW s.stby.bkp k
            ∨ recent = true ∧ ∃ old, (false, k, old) ∈ s.stby.prev ∧ rdW t.stby.bkp k = old)
          ∧ (∀ k, rdW t.stby.sram k = rdW s.stby.sram k
            ∨ recent = true ∧ ∃ old, (true, k, old) ∈ s.stby.prev ∧ rdW t.stby.sram k = old))

/-- The rows of VIO_C1, VCONN_IN, VSTBY and UP_VBUS (R68, R77, R78, R89, R92, R104, R262), and the levels of the balls by
phase (R66, R72, R80 to R82, R124, R125, R127, R132, R634): the C1 bank is absent without VIO_C1 and in its reset state
until its mode is decided; before the balls are released the IO bank shows its weak pull-ups; the shutdown and a block
held in reset put them at their safe levels; in SEED_FAIL the grant output follows the grant input or stands high. -/
def Obligations.SupplyRows : Prop :=
  ∀ s : State,
    (∀ mv, s.pwr.vioOk = true → s.pwr.vioMode = none →
      exec (.c1ModeDecision mv) s = .next { s with pwr := { s.pwr with
        vioMode := some (decide (4000 ≤ mv)), c1Reset := s.pwr.vioAt.isSome } })
    ∧ (s.pwr.vioOk = true → clocked s = true →
      exec .vioC1Low s = .next { s with
        pwr := { s.pwr with vioOk := false, vioMode := none, c1Reset := true, vioAt := some s.tick.now }
        hay := { s.hay with raised := s.hay.raised ++ [⟨0x51, 0x0B, 0⟩] } })
    ∧ (s.pwr.vioOk = false →
      exec .vioC1Rise s = .next { s with pwr := { s.pwr with
        vioOk := true, vioAt := s.pwr.vioAt.map (fun _ => s.tick.now) } })
    ∧ (∀ b, s.pwr.vioAt = some b → b + 64 ≤ s.tick.now → s.pwr.c1Reset = true → s.pwr.vioOk = true →
      s.pwr.vioMode.isSome = true → clocked s = true →
      exec .c1BankReturn s = .next { s with pwr := { s.pwr with c1Reset := false, vioAt := none } })
    ∧ (s.pwr.vconnIn = true → clocked s = true →
      exec .vconnLow s = .next { s with
        pwr := { s.pwr with vconnIn := false }, tcs := s.tcs.map (fun q => { q with vconn := false, hrVconn := false })
        hay := { s.hay with raised := s.hay.raised ++ [⟨0x67, 0x0C, 0⟩] } })
    ∧ exec .vconnInReturn s = .next { s with pwr := { s.pwr with vconnIn := true } }
    ∧ (∃ t, exec .vstbyLoss s = .next t ∧ t.stby.present = false ∧ t = { s with stby := t.stby, free := t.free })
    ∧ exec .vstbyReturn s = .next { s with stby := { Stby.reset with lost := true } }
    ∧ (s.pwr.phase = .run →
      exec .vbusPresent s = .next { s with hub := { s.hub with vbus := true, pullup := true, speed := max 1 s.hub.speed } })
    ∧ exec .vbusAbsent s = .next { s with hub := { s.hub with
        vbus := false, pullup := false, speed := 0, susp := false, driveK := false } }
    ∧ (∀ (bg : Bool) (k n c : Nat),
      let c1 : List Level := [attnOutBall s k, pfailOutBall s, bgOutBall s bg, c1BusBalls s, c1BrBall s, c1LockBall s,
        hbBall s]
      let io : List Level := [pwrEnBall s n, hvSelBall s n, tickOutBall s, deBall s c, txBall s c, alertBall s, faultBall s]
      (s.pwr.vioOk = false → ∀ b ∈ c1, b = .hiZ)
      ∧ (s.pwr.vioOk = true → s.pwr.c1Reset = true ∨ s.pwr.balls = false → ∀ b ∈ c1, b = .pull)
      ∧ (s.pwr.phase ≠ .powerOn → s.pwr.balls = false → ∀ b ∈ io, b = .pull)
      ∧ (s.pwr.phase ≠ .powerOn → s.pwr.balls = true →
        (s.pwr.phase = .shutdown → 4 ≤ s.pwr.shutStep → pwrEnBall s n = .low)
        ∧ (s.pwr.phase = .shutdown → 6 ≤ s.pwr.shutStep → hvSelBall s n = .low ∧ tickOutBall s = .low)
        ∧ (s.pwr.blkHeld.getLsbD (4 + c) = true → deBall s c = .low ∧ txBall s c = .high))
      ∧ (s.pwr.vioOk = true → s.pwr.c1Reset = false → s.pwr.balls = true → s.pwr.phase = .seedFail →
        bgOutBall s bg = (if bgSafeHigh s.nvm.opt = true then .high else if bg = true then .high else .low)))

/-- BLK_RST_WRITE, BLOCK_RESET_TAKEN and BLOCK_RESET_END (R132, R133, R144, R145, R168): a masked write records requests;
at the boundary each requested block is held, or refused with its flag and a BLK_RST_REFUSED event. -/
def Obligations.BlockResets : Prop :=
  (∀ (path : Path) (v : W) (s : State), mayAccess path s = true →
    exec (.blkRstWrite path v) s = .next (accessed path (fun s =>
      { s with pwr := { s.pwr with blkReq := s.pwr.blkReq ||| BitVec.ofNat 10 (v.toNat &&& v.bits 31 16) } }) s))
  ∧ (∀ (s : State) (b : Nat), b < 10 → s.pwr.blkReq.getLsbD b = true → s.pwr.blkHeld.getLsbD b = false →
      ∃ t, exec .blockResetTaken s = .next t
        ∧ (((s.pwr.phase = .run ∨ s.pwr.phase = .quiesce) ∧ blkIdle s b = true) →
            t.pwr.blkHeld.getLsbD b = true ∧ (b = 4 → t.culvs.bus = C1Bus.reset)
            ∧ (b = 8 → t.adc.zs = [] ∧ t.adc.rs = []) ∧ (b = 0 → t.hub.addr = 0 ∧ t.hub.configured = false))
        ∧ (¬((s.pwr.phase = .run ∨ s.pwr.phase = .quiesce) ∧ blkIdle s b = true) →
            t.pwr.blkHeld.getLsbD b = false ∧ t.pwr.blkRefused.getLsbD b = true ∧ t.pwr.blkReq.getLsbD b = false
            ∧ (⟨0x66, 0x07, b⟩ : Event) ∈ t.hay.raised)
        ∧ t.stby = s.stby ∧ t.tick = s.tick ∧ t.mem.ledger = s.mem.ledger ∧ t.cfg = s.cfg)
  ∧ ∀ s : State,
    exec .blockResetEnd s = .next { s with pwr := { s.pwr with blkReq := s.pwr.blkReq &&& ~~~s.pwr.blkHeld, blkHeld := 0 } }

/-- UPSTREAM_BUS_RESET (R101, R141, R182, R257, R294, R301): the hub is at address 0, not configured, with all ports
reported Powered-off while their power stays; the USB window is reset; USBRST is set and LAST is not. -/
def Obligations.UpstreamBusReset : Prop :=
  ∀ (hs : Bool) (s : State), s.hub.pullup = true →
    ∃ t, exec (.upstreamBusReset hs) s = .next t
      ∧ t.hub.speed = (if hs then 2 else 1) ∧ t.hub.addr = 0 ∧ t.hub.configured = false ∧ t.hub.susp = false
      ∧ t.hub.rwake = false ∧ t.hub.mtt = false ∧ t.hub.fAddr = 0 ∧ t.hub.fConfigured = false
      ∧ t.hub.busResets = satInc s.hub.busResets 65535
      ∧ (∀ n < 16, s.hub.ports.length = 17 → (t.hubPort n).st = .poweredOff)
      ∧ (s.hub.ports.length = 17 → t.hubPort 16 = HubPort.reset17)
      ∧ t.ports.map PPort.st = s.ports.map PPort.st
      ∧ t.stby = { s.stby with usbrst := true }
      ∧ t.uWin.iwa = 0 ∧ t.uWin.step = 1 ∧ t.tWin = s.tWin
      ∧ t.tick = s.tick ∧ t.cfg = s.cfg ∧ t.field = s.field ∧ t.nvm = s.nvm ∧ t.mem.commons = s.mem.commons

/-- REQ_RUN, REQ_QUIESCE and REQ_STANDBY in a device that does not rest (R114, R116, R124, R138 to R140).

The requests of PWR_STATE through the tally port in REST (R119, R139, R140): the frame wakes the device, and the
request waits. -/
def Obligations.PowerRequests : Prop :=
  (∀ (path : Path) (re : Bool) (s : State), mayAccess path s = true →
    let p := { s.pwr with restEn := re, noRest := s.pwr.noRest && !re }
    exec (.reqRun path re) s = .next (accessed path (fun s => { s with pwr := { p with
      resume := if (p.phase = .run && p.reqQuiesce) || p.phase = .quiesce then true else p.resume
      runRecorded := if p.phase = .shutdown then true else p.runRecorded } }) s)
    ∧ exec (.reqQuiesce path re) s = .next (accessed path (fun s => { s with pwr :=
        if p.phase = .run then { p with reqQuiesce := true, resume := false } else p }) s)
    ∧ (p.phase = .shutdown → exec (.reqStandby path re) s = .next (accessed path (fun s => { s with pwr := p }) s))
    ∧ (p.phase ≠ .shutdown →
      ∃ t, exec (.reqStandby path re) s = .next t
        ∧ t.pwr = { p with
            phase := .shutdown, shutStep := 1, shutAt := s.tick.now, stopNew := true, reqQuiesce := false
            resume := false, pendStandby := false, pendQuiesce := false, pendRun := false, runRecorded := false, wake := false }
        ∧ t.stby = { s.stby with incomplete := true, shutSteps := 0, prev := [] }
        ∧ t.field.shadow = none ∧ t.field.testAt = none ∧ t.field.memRun = false
        ∧ t.cfg.pass = none ∧ t.cfg.step = none ∧ t.cfg.checking = false ∧ t.cfg.fPending = false
        ∧ t.tick = s.tick ∧ t.mem = s.mem ∧ t.ports = s.ports ∧ t.hub = s.hub ∧ t.nvm = s.nvm))
  ∧ (∀ (re : Bool) (s : State), s.pwr.phase = .rest → s.pwr.wake = false →
    let p := { s.pwr with restEn := re, noRest := s.pwr.noRest && !re, wake := true, wakeAt := s.tick.now }
    let u := { s with
      tally := { s.tally with hold := false, holdMsg := false, last := .ok }, stby := { s.stby with prev := [] } }
    exec (.reqRun .tally re) s = .next { u with pwr := { p with noRest := true, pendQuiesce := false } }
    ∧ exec (.reqQuiesce .tally re) s = .next { u with pwr := { p with pendQuiesce := true } }
    ∧ exec (.reqStandby .tally re) s = .next { u with pwr := { p with pendStandby := true } })

/-- QUIESCE and REST (R114, R116 to R121, R196, R228, R281, R588): entering, resuming, waking. No window's buffer stays
ready in REST, and a CRC pass starts at the first boundary of RUN. -/
def Obligations.PowerStates : Prop :=
  ∀ s : State,
    (s.pwr.phase = .run → s.pwr.reqQuiesce = true → s.pwr.stopNew = true → drained s = true →
      ∃ t, exec .quiesceEnter s = .next t ∧ t.pwr = { s.pwr with phase := .quiesce, reqQuiesce := false }
        ∧ (∀ p < 63, s.plots.length = 63 →
            (t.plot p).paused = decide (s.role p ≠ rWARD ∧ s.role p ≠ rTAND))
        ∧ t = { s with pwr := t.pwr, plots := t.plots })
    ∧ (s.pwr.resume = true → (s.pwr.phase = .quiesce ∨ s.pwr.phase = .run ∧ s.pwr.reqQuiesce = true) →
      ∃ t, exec .quiesceResume s = .next t
        ∧ t.pwr = { s.pwr with phase := .run, reqQuiesce := false, resume := false, stopNew := false }
        ∧ (∀ p < 63, s.plots.length = 63 → (t.plot p).paused = false)
        ∧ t.field.memRun = false ∧ t.field.memAborted = (s.field.memRun || s.field.memAborted)
        ∧ t = { s with pwr := t.pwr, plots := t.plots, field := t.field })
    ∧ (s.pwr.phase = .run → s.hub.susp = true → s.pwr.restEn = true → s.pwr.noRest = false → s.pwr.reqQuiesce = false →
      drained s = true → s.tandPlot = none →
      ∃ t, exec .restEnter s = .next t ∧ t.pwr = { s.pwr with phase := .rest, wdogArmed := false, wake := false }
        ∧ t.tick.st = .free ∧ t.tick.count = s.tick.count ∧ t.field.shadow = none ∧ t.field.testAt = none
        ∧ t.cfg.load = none ∧ t.tWin = { s.tWin with rdy := false } ∧ t.uWin = { s.uWin with rdy := false }
        ∧ t.mem = s.mem ∧ t.ports = s.ports ∧ t.tcs = s.tcs ∧ t.stby = s.stby)
    ∧ (s.pwr.phase = .run → s.hub.susp = true → s.pwr.restEn = true → s.pwr.noRest = false → s.pwr.reqQuiesce = false →
      s.hub.susAt + 256 ≤ s.tick.now → drained s = false →
      exec .restBlocked s = .next { s with stby := { s.stby with restBlocked := true } })
    ∧ (∀ why, s.pwr.phase = .rest → s.pwr.wake = false →
      exec (.wakeEvent why) s = .next { s with
        pwr := { s.pwr with wake := true, wakeAt := s.tick.now }
        hub := if why = .hubWake then { s.hub with wakeCond := true } else s.hub })
    ∧ (s.pwr.phase = .rest → s.pwr.wake = true → s.pwr.wakeAt + 2 ≤ s.tick.now →
      ∃ t, exec .restResume s = .next t
        ∧ (s.pwr.pendStandby = false → t = { s with
            pwr := { s.pwr with
              phase := .run, wake := false, wdogArmed := true, reqQuiesce := s.pwr.pendQuiesce, pendQuiesce := false
              pendStandby := false }
            cfg := { s.cfg with
              pass := some ⟨0, 0xFFFFFFFF, !s.cfg.isOpen, s.cfg.checking && !s.cfg.commitAt⟩, touched := [] }
            plots := s.plots.map (fun q => { q with lastUsed := 0, lastSpate := 0 }) })
        ∧ (s.pwr.pendStandby = true → t.pwr.phase = .shutdown ∧ t.pwr.shutStep = 1 ∧ t.stby.incomplete = true))

/-- The seven steps of the controlled shutdown (R124, R125, R138, R428, R535): each sets its bit of SHUT_STEPS, and its
end begins the next; a port that step 3 does not find OFF is reported and its power taken away; step 7 resets the device
with cause SHUTDOWN. -/
def Obligations.ShutdownSteps : Prop :=
  ∀ (s : State), s.pwr.phase = .shutdown →
    let bit (k : Nat) (t : State) : Prop := t.stby.shutSteps = s.stby.shutSteps ||| BitVec.ofNat 7 (2 ^ (k - 1))
      ∧ t.pwr.shutStep = k + 1 ∧ t.pwr.shutAt = s.tick.now
    let due := s.pwr.started = false ∨ s.pwr.shutAt < s.tick.now
    (s.pwr.shutStep = 1 → due → ∃ t, exec .shutdownStop s = .next t ∧ bit 1 t ∧ t = { s with pwr := t.pwr, stby := t.stby })
    ∧ (s.pwr.shutStep = 2 → drained s = true →
        ∃ t, exec .shutdownDrain s = .next t ∧ bit 2 t
          ∧ t.ports = s.ports.map (fun p => { p with reqs := p.reqs ++ [false] })
          ∧ t.tcs = s.tcs.map (fun q => { q with noGate := true, vconn := false })
          ∧ t = { s with pwr := t.pwr, stby := t.stby, ports := t.ports, tcs := t.tcs })
    ∧ (s.pwr.shutStep = 3 → (∀ n < 16, (s.port n).st = .off) →
        ∃ t, exec .shutdownPorts s = .next t ∧ bit 3 t ∧ t.culvs.bus.held = false ∧ t.culvs.bus.lockOwn = false
          ∧ t.culvs.bus.granting = false ∧ t.culvs.c2.ser = .idle ∧ t.culvs.c3.ser = .idle ∧ t.hay.raised = s.hay.raised)
    ∧ (s.pwr.shutStep = 3 → s.pwr.shutAt + 800 ≤ s.tick.now →
        ∃ t, exec .shutdownPorts s = .next t ∧ bit 3 t
          ∧ ∀ n < 16, ((s.port n).st = .off → t.port n = s.port n)
            ∧ ((s.port n).st ≠ .off → (t.port n).st = .discharge ∧ (⟨0x41 + n, 0x2F, n + 1⟩ : Event) ∈ t.hay.raised))
    ∧ (s.pwr.shutStep = 4 → due → (handoverOpen s = false ∨ s.pwr.shutAt + 5 ≤ s.tick.now) →
        ∃ t, exec .shutdownBuses s = .next t ∧ bit 4 t
          ∧ t.hub = { s.hub with pullup := false, speed := 0, susp := false, driveK := false }
          ∧ t = { s with pwr := t.pwr, stby := t.stby, hub := t.hub })
    ∧ (s.pwr.shutStep = 5 → due →
        ∃ t, exec .shutdownUpstream s = .next t ∧ bit 5 t ∧ t.pwr.wdogArmed = false
          ∧ t.mem = s.mem ∧ t.tick = s.tick ∧ t.cfg = s.cfg ∧ t.culvs = s.culvs)
    ∧ (s.pwr.shutStep = 6 → due → ∃ t, exec .shutdownField s = .next t ∧ bit 6 t ∧ t = { s with pwr := t.pwr, stby := t.stby })
    ∧ (s.pwr.shutStep = 7 → (∀ a v, s.nvm.op ≠ some (.erase, a, v)) →
        ∃ t, exec .shutdownStandby s = .next t ∧ ResetDone s t ∧ t.pwr.phase = .standby
          ∧ t.pwr.runRecorded = s.pwr.runRecorded
          ∧ t.stby = { s.stby with
              shutSteps := s.stby.shutSteps ||| 64, incomplete := false, shutdown := true, last := 6 })

/-! ### The configuration, fences, the fallow furrow and the self-tests -/

/-- CFG_OPEN and CFG_COMMIT by a path that may write (R186, R230, R232).

FENCE commands while no commit is checked (R204, R243, R244): what each does, and the REASON each refusal gives. -/
def Obligations.OpenCommitFence : Prop :=
  (∀ (path : Path) (s : State), mayAccess path s = true → foreignOwner s path = false →
    exec (.cfgOpen path) s = .next (accessed path (fun s =>
      if s.cfg.isOpen || s.cfg.openWait || s.cfg.checking then s
      else if applying s then
        { s with usb := { s.usb with owner := pathCode path }, cfg := { s.cfg with openWait := true } }
      else { s with
        usb := { s.usb with owner := pathCode path }
        cfg := { s.cfg with
          isOpen := true, window := 0, winRun := false, pass := s.cfg.pass.map (fun p => { p with clean := false }) } }) s)
    ∧ exec (.cfgCommit path) s = .next (accessed path (fun s =>
      if s.cfg.isOpen && !s.cfg.checking then { s with cfg := { s.cfg with checking := true, commitAt := true } }
      else s) s))
  ∧ (∀ (path : Path) (plot : BitVec 6) (s : State),
    mayAccess path s = true → foreignOwner s path = false → s.cfg.checking = false →
    let c := s.cfg
    let due := (c.fPending || c.fPaused) && c.fAccepted
    let no (why : Nat) := { c with fRefused := true, fReason := why }
    exec (.fenceAdd path plot) s = .next (accessed path (fun s => { s with cfg := (
      if 8 ≤ c.fenceList.length then no 2
      else if 62 < plot.toNat then no 3
      else if due then no 4
      else if c.fenceList.contains plot.toNat then c
      else { c with fenceList := c.fenceList ++ [plot.toNat] }) }) s)
    ∧ exec (.fenceClear path) s = .next (accessed path (fun s => { s with cfg := (
      if due then no 4
      else if c.fPending && c.fForCommit then
        { c with fenceList := [], fPending := false, fForCommit := false, fAccepted := false, fPaused := false }
      else { c with fenceList := [] }) }) s)
    ∧ exec (.fenceRequest path) s = .next (accessed path (fun s => { s with cfg := (
      if c.fenceList = [] then no 2
      else if c.fenceList.any (fun p => s.role p = rIDLE) then no 3
      else if c.fPending || c.fPaused || s.pwr.phase ≠ .run then no 4
      else if c.fenceList.any (fun p => cSpateRes (s.plot p).wc p ≠ 0) then no 1
      else if c.fenceList.any (fun p => (s.plot p).shadowed) then no 5
      else { c with fPending := true, fForCommit := c.isOpen, fAccepted := false, fPaused := false, fAt := s.tick.now }) }) s))

/-- AUTOLOAD, COMMIT_CHECK_START and CRC_PASS_END (R226, R228, R229, R232): a failed image is reported as 0x1 or 0x2; a
good one fills the configuration space and its CFG_REF; a pass is compared only where the configuration stayed
committed.

COMMIT_CHECK_END of an autoload (R108, R226): passing, every changed plot waits for the first boundary of RUN and all
epochs are 1; failing, nothing is applied and the device stays in STARTUP. -/
def Obligations.CheckingAndAutoload : Prop :=
  (∀ s : State,
    (s.pwr.phase = .startup → s.cfg.auto = true → s.cfg.loaded = false →
      exec .autoload s = .next { s with cfg := (
        if !headerOk s then { s.cfg with
          loaded := true, checkFail := true, checkCode := 1, failPlot := 63, checking := false, auto := false }
        else if !imageOk s then { s.cfg with
          loaded := true, checkFail := true, checkCode := 2, failPlot := 63, checking := false, auto := false }
        else { s.cfg with
          loaded := true, space := imageSpace s, ref := (s.seedWord 0x404).data
          pass := some ⟨0, 0xFFFFFFFF, !s.cfg.isOpen, true⟩ }) })
    ∧ (s.cfg.commitAt = true → (if s.usb.owner = 2 then s.uWin.wbuf = none else s.tWin.wbuf = none) →
        (s.pwr.phase = .run ∨ s.pwr.phase = .quiesce ∨ s.pwr.phase = .startup) →
      exec .commitCheckStart s = .next { s with cfg := { s.cfg with
        commitAt := false, pass := some ⟨0, 0xFFFFFFFF, !s.cfg.isOpen, true⟩ } })
    ∧ ∀ q, s.cfg.pass = some q → q.k = 64 → q.checking = false →
      let c := { s.cfg with crc := crc32Fin q.crc, pass := some ⟨0, 0xFFFFFFFF, !s.cfg.isOpen, false⟩ }
      exec .crcPassEnd s = .next (if q.clean && !s.cfg.isOpen && crc32Fin q.crc ≠ s.cfg.ref then
          { s with cfg := { c with mismatch := true }, hay := { s.hay with raised := s.hay.raised ++ [⟨0x61, 0x05, 0⟩] } }
        else { s with cfg := c }))
  ∧ (∀ (s : State) (q : Pass), s.cfg.pass = some q → q.k = 64 → q.checking = true → s.cfg.auto = true →
    let r := runChecks s (decide (crc32Fin q.crc = s.cfg.ref)) false
    let c := { s.cfg with
      crc := crc32Fin q.crc, pass := some ⟨0, 0xFFFFFFFF, !s.cfg.isOpen, false⟩, auto := false, checking := false }
    exec .commitCheckEnd s = .next (if r.1 = 0 then { s with
        cfg := { c with
          epoch := 1, targetEpoch := 1, stuck := [], pend := changedPlots s
          step := some ⟨.startup, s.tick.now, changedPlots s, false⟩ }
        plots := s.plots.map (fun p => { p with epoch := 1 })
        pwr := { s.pwr with pendRun := true } }
      else { s with cfg := { c with checkFail := true, checkCode := r.1, failPlot := r.2 } }))

/-- COMMIT_CHECK_END of a commit (R234, R236, R237, R239): accepted when the pass equals CFG_REF and every load check
passes, and then applied by the path of the state; otherwise CHECK_CODE and FAIL_PLOT name the first failing check and the
configuration stays open. -/
def Obligations.CommitCheckEnd : Prop :=
  ∀ (s : State) (q : Pass), s.cfg.pass = some q → q.k = 64 → q.checking = true → s.cfg.auto = false →
    let r := runChecks s (decide (crc32Fin q.crc = s.cfg.ref)) (decide (s.pwr.phase = .run))
    let ch := changedPlots s
    (r.1 = 0 → ∃ t, exec .commitCheckEnd s = .next t
      ∧ t.cfg.isOpen = false ∧ t.cfg.checking = false ∧ t.cfg.commitOk = true ∧ t.cfg.stuck = [] ∧ t.usb.owner = 0
      ∧ t.cfg.crc = crc32Fin q.crc ∧ t.cfg.space = s.cfg.space
      ∧ t.plots.map Plot.wc = s.plots.map Plot.wc
      ∧ (s.pwr.phase = .run → stagedFence s = [] →
          t.cfg.pend = ch ∧ t.cfg.epoch = s.cfg.epoch + (if changedDevice s then 1 else 0)
          ∧ t.cfg.targetEpoch = t.cfg.epoch + BitVec.ofNat 32 ch.length ∧ t.hay.mode = s.cfg.hwMode
          ∧ t.cfg.hwTable = sliceStore s.cfg.space 0x50000 0x50400)
      ∧ (s.pwr.phase = .run → stagedFence s ≠ [] →
          t.cfg.epoch = s.cfg.epoch ∧ t.cfg.fAccepted = true ∧ t.cfg.fPaused = true
          ∧ (s.plots.length = 63 → ∀ p ∈ stagedFence s, p < 63 → (t.plot p).fenced = true))
      ∧ (s.pwr.phase = .quiesce →
          t.cfg.epoch = s.cfg.epoch
          ∧ t.cfg.targetEpoch = s.cfg.epoch + (if changedDevice s = true ∨ ch ≠ [] then 1 else 0)
          ∧ (s.plots.length = 63 → ∀ p ∈ ch, (t.plot p).fenced = true))
      ∧ (s.pwr.phase = .startup →
          t.pwr.pendRun = true ∧ t.cfg.pend = ch
          ∧ t.cfg.targetEpoch = s.cfg.epoch + (if changedDevice s = true ∨ ch ≠ [] then 1 else 0)))
    ∧ (r.1 ≠ 0 → ∃ t, exec .commitCheckEnd s = .next t
      ∧ t.cfg.commitFail = true ∧ t.cfg.checkFail = true ∧ t.cfg.checkCode = r.1 ∧ t.cfg.failPlot = r.2
      ∧ t.cfg.checking = false ∧ t.cfg.isOpen = s.cfg.isOpen ∧ t.cfg.window = s.cfg.window
      ∧ (r.1 = 13 → t.cfg.fRefused = true ∧ t.cfg.fReason = 1 ∧ t.cfg.fPending = false)
      ∧ t = { s with cfg := t.cfg })

/-- FURROWS_START (R108, R237, R262, R582): RUN begins; every plot of the start-up step runs its words of the
configuration space, and the device-scope words are applied.

COMMIT_APPLY_QUIESCE (R237, R238, R248): all plots of the step run their words of the configuration space, in one
epoch step. -/
def Obligations.StartAndQuiesceApply : Prop :=
  (∀ (s : State) (st : CommitStep), s.pwr.pendRun = true → s.pwr.phase = .startup → s.pwr.factory = false →
    s.cfg.step = some st → s.plots.length = 63 →
    ∃ t, exec .furrowsStart s = .next t
      ∧ t.pwr = { s.pwr with phase := .run, pendRun := false, started := true, wdogArmed := true, stopNew := false }
      ∧ t.field.counter = 0 ∧ t.field.testWait = s.field.fallow.isSome
      ∧ (∀ p ∈ st.plots, p < 63 → (t.plot p).wc = extractPlot s.cfg.space p ∧ (t.plot p).fenced = false)
      ∧ t.cfg.epoch = s.cfg.epoch + (if st.makes then 1 else 0)
      ∧ t.cfg.devScope = extractDevice s.cfg.space ∧ t.cfg.routeOn = true ∧ t.cfg.step = none
      ∧ t.hay.mode = s.cfg.hwMode
      ∧ (s.hub.vbus = true → t.hub.pullup = true)
      ∧ t.cfg.space = s.cfg.space ∧ t.mem.commons = s.mem.commons ∧ t.stby = s.stby ∧ t.tick = s.tick)
  ∧ (∀ (s : State) (st : CommitStep), s.cfg.step = some st → st.kind = .quiesce → st.at_ < s.tick.now →
    s.plots.length = 63 →
    ∃ t, exec .commitApplyQuiesce s = .next t
      ∧ (∀ p ∈ st.plots, p < 63 → (t.plot p).wc = extractPlot s.cfg.space p ∧ (t.plot p).fenced = false)
      ∧ (∀ p < 63, p ∉ st.plots → (t.plot p).wc = (s.plot p).wc)
      ∧ t.cfg.epoch = s.cfg.epoch + (if st.makes then 1 else 0) ∧ t.cfg.step = none
      ∧ t.cfg.devScope = extractDevice s.cfg.space ∧ t.hay.mode = s.cfg.hwMode
      ∧ (s.cfg.fPaused = true → t.cfg.fApplied = true ∧ t.cfg.fPending = false ∧ t.cfg.fenceList = [])
      ∧ t.cfg.space = s.cfg.space ∧ t.pwr = s.pwr ∧ t.tick = s.tick)

/-- FENCE_PAUSE and FENCE_APPLY (R245, R246): the listed plots pause for one tick; with no commit to apply nothing is
loaded, with one the listed plots run their words of the configuration space; every plot leaves its pause and the list
is cleared.

CFG_WINDOW_EXPIRE (R231, R250): nothing is applied, the words written stay, and a pending fence is cancelled. -/
def Obligations.FencesAndWindow : Prop :=
  (∀ s : State, s.plots.length = 63 →
    (s.cfg.fPending = true → s.cfg.fForCommit = false → s.cfg.fPaused = false → s.cfg.fAt < s.tick.now →
      ∃ t, exec .fencePause s = .next t
        ∧ t.cfg = { s.cfg with fPaused := true, fAt := s.tick.now }
        ∧ (∀ p < 63, t.plot p = if p ∈ s.cfg.fenceList then { s.plot p with fenced := true } else s.plot p)
        ∧ t = { s with cfg := t.cfg, plots := t.plots })
    ∧ (s.cfg.fPaused = true → s.cfg.fAt < s.tick.now → s.cfg.step = none → s.cfg.openWait = false →
      ∃ t, exec .fenceApply s = .next t
        ∧ t.cfg = { s.cfg with
            fApplied := true, fenceList := [], fPending := false, fForCommit := false, fAccepted := false, fPaused := false }
        ∧ (∀ p < 63, t.plot p = { s.plot p with fenced := false })
        ∧ t = { s with cfg := t.cfg, plots := t.plots })
    ∧ (∀ st, s.cfg.fPaused = true → s.cfg.fAt < s.tick.now → s.cfg.step = some st → st.kind = .fence →
      ∃ t, exec .fenceApply s = .next t
        ∧ t.cfg.fApplied = true ∧ t.cfg.fPending = false ∧ t.cfg.fenceList = [] ∧ t.cfg.step = none
        ∧ t.cfg.epoch = s.cfg.epoch + (if st.makes then 1 else 0)
        ∧ (∀ p ∈ st.plots, p < 63 → (t.plot p).wc = extractPlot s.cfg.space p ∧ (t.plot p).fenced = false)))
  ∧ (∀ s : State, s.cfg.isOpen = true → s.cfg.checking = false → 4096 ≤ s.cfg.window →
    exec .cfgWindowExpire s = .next { s with
      cfg := (
        let c := { s.cfg with isOpen := false, winRun := false, window := 0, expired := true }
        if s.cfg.fPending then
          { c with fenceList := [], fPending := false, fForCommit := false, fAccepted := false, fPaused := false }
        else c)
      usb := { s.usb with owner := 0 }
      hay := { s.hay with raised := s.hay.raised ++ [⟨0x61, 0x05, 1⟩] } })

/-- The swap that ends a shadowing (R241, R578, R580): the fallow furrow carries the plot, the vacated one is fallow and
its test is to begin; after an update the plot runs its new working copy with the epoch of this step. -/
def Obligations.Swap : Prop :=
  ∀ (s : State) (h : Shadow), s.field.shadow = some h → ∀ f, s.field.fallow = some f → fieldSwaps s = true →
    h.since + 2 ≤ s.tick.now → s.plots.length = 63 → s.field.map.length = 64 → h.plot < 63 → f < 64 → h.target < 64 →
    f ≠ h.target →
    let swapped (t : State) : Prop :=
      t.field.map.getD f ⟨63, .fallow⟩ = ⟨h.plot, .carrying⟩ ∧ t.field.map.getD h.target ⟨63, .carrying⟩ = ⟨63, .fallow⟩
      ∧ t.field.fallow = some h.target ∧ t.field.shadow = none ∧ t.field.counter = 0 ∧ t.field.due = false
      ∧ t.field.swaps = s.field.swaps + 1 ∧ t.field.swapDone = true ∧ t.field.testWait = true
      ∧ (t.plot h.plot).furrow = f ∧ (t.plot h.plot).shadowed = false
    (h.why ≠ .update → ∃ t, exec (.shadowCompare true) s = .next t ∧ swapped t ∧ (t.plot h.plot).wc = (s.plot h.plot).wc
        ∧ t = { s with field := t.field, plots := t.plots })
    ∧ (h.why = .update → ∃ t, exec (.updateSwap true) s = .next t ∧ swapped t ∧ (t.plot h.plot).wc = h.newWc
        ∧ t.cfg.epoch = s.cfg.epoch + 1 ∧ (t.plot h.plot).epoch = (s.cfg.epoch + 1).setWidth 16
        ∧ h.plot ∉ t.cfg.pend ∧ t.tick = s.tick ∧ t.mem.commons = s.mem.commons)
    ∧ (h.mism = false →
        let again := { s with field := { s.field with shadowMis := s.field.shadowMis + 1, shadow := some { h with mism := true, since := s.tick.now } } }
        (h.why ≠ .update → exec (.shadowCompare false) s = .next again)
        ∧ (h.why = .update → exec (.updateSwap false) s = .next again))
    ∧ (h.mism = true → h.why ≠ .update → ∃ t, exec (.shadowCompare false) s = .next t
        ∧ t.field.fallow = none ∧ t.field.noSpare = true ∧ t.field.failedF = f ∧ f ∈ t.field.failed
        ∧ (⟨0x65, 0x09, f⟩ : Event) ∈ t.hay.raised)

/-- The rows of FALLOW_CTL (R213, R585, R590): a request that cannot be taken sets BUSY with its REFUSE_WHY.

ROTATION_DUE, SHADOW_START, FURROW_TEST_START, FURROW_TEST_COMPLETE and UPDATE_LOAD (R213, R241, R578, R579, R580,
R582, R583, R606).

ADC_CAL and MEMTEST_DONE (R587 to R592, R606): a passing set becomes the correction; a failing one keeps it, raises
ADC_CAL, and the third in a row makes it invalid; the memory test leaves every word as it reads and retires the parcels
of the failing words. -/
def Obligations.FallowRows : Prop :=
  (∀ (path : Path) (s : State), mayAccess path s = true →
    (∀ (halt : Bool) (period : BitVec 5),
      exec (.haltWrite path halt period) s = .next (accessed path (fun s =>
        { s with field := { s.field with halt := halt, period := period } }) s))
    ∧ (∀ f : FurrowId, exec (.forceTest path f) s = .next (accessed path (fun s =>
        { s with field := (if forceRefused s f.val = 0 then { s.field with forceReq := some f.val }
          else { s.field with busy := true, refuseWhy := forceRefused s f.val }) }) s))
    ∧ exec (.memtestRequest path) s = .next (accessed path (fun s =>
        { s with field := (if s.pwr.phase ≠ .quiesce then { s.field with busy := true, refuseWhy := 6 }
          else if s.field.memRun || s.field.memReq then { s.field with busy := true, refuseWhy := 7 }
          else { s.field with memReq := true }) }) s))
  ∧ (∀ (s : State) (f : Nat), fieldSwaps s = true → s.field.fallow = some f →
    (2 ^ (clampTo 12 20 s.field.period.toNat) ≤ s.field.counter →
      exec .rotationDue s = .next { s with field := { s.field with due := true } })
    ∧ (s.field.due = true → s.field.halt = false → fallowFree s = true → s.field.noSpare = false →
        s.field.testAt = none → s.field.testWait = false → inFence s (plotOn s ((f + 1) % 64)) = false →
      let p := plotOn s ((f + 1) % 64)
      ∃ t, exec .shadowStart s = .next t
        ∧ t.field.shadow = some ⟨.rotation, p, (s.plot p).furrow, s.tick.now, false, []⟩
        ∧ (f < s.field.map.length → t.field.map.getD f ⟨63, .fallow⟩ = ⟨p, .shadowing⟩)
        ∧ (p < s.plots.length → t.plot p = { s.plot p with shadowed := true })
        ∧ t = { s with field := t.field, plots := t.plots })
    ∧ (s.field.testWait = true → s.field.testAt = none → fallowFree s = true →
      ∃ t, exec .furrowTestStart s = .next t
        ∧ t.field = { s.field with testAt := some s.tick.now, testWait := false }
        ∧ (wfStore Sluice.empty s.sluices = true →
            (∀ i, i = 126 ∨ i = 127 → sWords (t.sluice i) = [] ∧ (t.sluice i).opn = none ∧ (t.sluice i).claims = [])
            ∧ ∀ i, i ≠ 126 → i ≠ 127 → t.sluice i = s.sluice i)
        ∧ t = { s with field := t.field, sluices := t.sluices })
    ∧ (∀ a, s.field.testAt = some a → a + 292 ≤ s.tick.now →
      exec .furrowTestComplete s = .next { s with field := { s.field with
        testAt := none, lastTested := f, lastPass := true, lastSig := 0x6C1B52E7
        testsPassed := s.field.testsPassed + 1 } })
    ∧ (∀ p l, swapPend s = p :: l → s.cfg.step = none → s.cfg.load = none → s.field.shadow = none →
      exec .updateLoad s = .next { s with cfg := { s.cfg with load := some (p, extractPlot s.cfg.space p, s.tick.now) } }))
  ∧ (∀ s : State,
    (64 ≤ s.adc.zs.length →
      let z := s.adc.zs.take 64
      let r := s.adc.rs.take 64
      let a := { s.adc with
        zs := s.adc.zs.drop 64, rs := s.adc.rs.drop 64, zMean := (z.sum + 32) / 64, rMean := (r.sum + 32) / 64 }
      exec .adcCal s = .next (if setNear 64 40 z && setNear 3413 82 r then
          { s with adc := { a with z := z.sum, r := r.sum, valid := true, trim := false, failRun := 0 } }
        else { s with
          adc := { a with
            fails := a.fails + 1, failRun := a.failRun + 1, valid := a.valid && decide (a.failRun < 2) }
          hay := { s.hay with raised := s.hay.raised ++ [⟨0x58, 0x0A, 0⟩] } }))
    ∧ (∀ bad : List (BitVec 16), s.field.memRun = true → wfStore zeroWord s.mem.commons = true →
      ∃ t, exec (.memtestDone bad) s = .next t
        ∧ t.field.memRun = false ∧ t.field.memDone = true ∧ t.field.memFail = (s.field.memFail || !bad.isEmpty)
        ∧ (∀ a, (t.cword a).data = (s.cword a).data)
        ∧ (∀ a ∈ bad, a.toNat / 16 ∈ t.field.retired ∧ (t.cword a.toNat).poison = true)
        ∧ (∀ a, (s.cword a).err ≠ .double → (∀ b ∈ bad, b.toNat ≠ a) → (t.cword a).poison = (s.cword a).poison
            ∧ ((s.cword a).err = .single → (t.cword a).err = .good))
        ∧ t = { s with field := t.field, mem := t.mem, hay := t.hay }))

/-- FURROW_FAIL, LOCAL_STORE_ERROR and CARRYING_FURROW_FAIL (R252, R593 to R596, R641): the furrow is failed, NO_SPARE is
set and FURROW_FAIL raised; a plot whose furrow fails moves to the fallow furrow. -/
def Obligations.FurrowFailures : Prop :=
  ∀ s : State, s.plots.length = 63 → s.field.map.length = 64 →
    (∀ (cause : FailCause) (f : Nat), s.field.fallow = some f → f < 64 → fieldSwaps s = true → faultFits cause s = true →
      ∃ t, exec (.furrowFail cause) s = .next t
        ∧ t.field.map.getD f ⟨63, .fallow⟩ = ⟨63, .failed⟩ ∧ f ∈ t.field.failed ∧ t.field.noSpare = true
        ∧ t.field.fallow = none ∧ t.field.testAt = none ∧ t.field.shadow = none ∧ t.field.failedF = f
        ∧ t.field.lastTested = f ∧ t.field.lastPass = false ∧ t.field.testFail = true
        ∧ (cause = .phase3 → t.field.lastSig ≠ 0x6C1B52E7)
        ∧ (⟨0x65, 0x09, f⟩ : Event) ∈ t.hay.raised
        ∧ t.mem = s.mem ∧ t.ports = s.ports ∧ t.tick = s.tick)
    ∧ (∀ p : PlotId, fieldRuns s = true → (s.plot p.val).stranded = false →
        (s.plot p.val).furrow ∉ s.field.pendFail →
      ∃ t, exec (.localStoreError p) s = .next t
        ∧ t.field = { s.field with pendFail := s.field.pendFail ++ [(s.plot p.val).furrow] }
        ∧ (t.plot p.val).running = none
        ∧ (∀ r, (s.plot p.val).running = some r → (t.plot p.val).ready = r.item :: (s.plot p.val).ready)
        ∧ t = { s with field := t.field, plots := t.plots, sluices := t.sluices, free := t.free })
    ∧ (∀ (f : Nat) (l : List Nat), s.field.pendFail = f :: l → ∀ g, s.field.fallow = some g → f < 64 → g < 64 → f ≠ g →
        ∀ p, s.field.map.getD f ⟨63, .fallow⟩ = ⟨p, .carrying⟩ → p < 63 →
      ∃ t, exec .carryingFurrowFail s = .next t
        ∧ t.field.pendFail = l ∧ f ∈ t.field.failed ∧ t.field.noSpare = true ∧ t.field.fallow = none
        ∧ t.field.map.getD f ⟨63, .fallow⟩ = ⟨63, .failed⟩ ∧ t.field.map.getD g ⟨63, .fallow⟩ = ⟨p, .carrying⟩
        ∧ (t.plot p).furrow = g ∧ (t.plot p).restart = true ∧ (t.plot p).reloadWc = true ∧ (t.plot p).seized = true
        ∧ (⟨0x65, 0x09, f⟩ : Event) ∈ t.hay.raised)
    ∧ (∀ (f : Nat) (l : List Nat), s.field.pendFail = f :: l → s.field.fallow = none → idleGiver s = none → f < 64 →
        (s.field.map.getD f ⟨63, .fallow⟩).fst = .carrying → (s.field.map.getD f ⟨63, .fallow⟩).plot < 63 →
      ∃ t, exec .carryingFurrowFail s = .next t
        ∧ (t.plot (s.field.map.getD f ⟨63, .fallow⟩).plot).stranded = true ∧ f ∈ t.field.failed)

/-! ### The tally port, the registers and the seed store -/

/-- Tally frames (R119, R149 to R153, R156, R158, R159, R188 to R190, R192): the falling edge wakes a resting device; a frame of a wrong
length is malformed, a wrong CRC under LCRC is CRC_BAD, and neither does anything else; a right write frame does what
its register write does; a right read frame sends the register with its trailer. -/
def Obligations.TallyFrames : Prop :=
  ∀ (cmd : Byte) (data : W) (crc : Byte) (clocks : Nat) (s : State),
    clocked s = true → clocks ≠ 0 →
    let s0 : State := { s with
      tally := { s.tally with hold := false, holdMsg := false }, stby := { s.stby with prev := [] } }
    let u : State := if s.pwr.phase = .rest ∧ s.pwr.wake = false then
      { s0 with pwr := { s.pwr with wake := true, wakeAt := s.tick.now } } else s0
    let st : Byte := BitVec.ofNat 8 (0x50 + s.tally.last.code)
    let bad : State := { u with tally := { u.tally with
      last := .malformed, malformed := true, malCnt := satInc s.tally.malCnt 255 } }
    let badCrc : State := { u with tally := { u.tally with
      last := .crcBad, crcErr := true, crcCnt := satInc s.tally.crcCnt 255 } }
    exec .tallyNullFrame s = .next u
    ∧ exec .tallyFrameTimeout s = .next bad
    ∧ (cmd.getLsbD 7 = true →
        (clocks ≠ (if s.tally.lcrc then 48 else 40) →
          exec (.tallyWriteFrame cmd data crc clocks) s =
            .next { bad with tally := { bad.tally with tdo := ⟨st, 0, 0⟩ } })
        ∧ (clocks = 48 → s.tally.lcrc = true → crc ≠ crc8 (cmd :: frameBytes data) →
          exec (.tallyWriteFrame cmd data crc clocks) s =
            .next { badCrc with tally := { badCrc.tally with tdo := ⟨st, 0, 0⟩ } })
        ∧ (clocks = (if s.tally.lcrc then 48 else 40) → (s.tally.lcrc = true → crc = crc8 (cmd :: frameBytes data)) →
          ∃ t, exec (.tallyWriteFrame cmd data crc clocks) s = .next t
            ∧ exec (.registerWrite .tally (cmd.setWidth 7) data)
                { s with tally := { s.tally with tdo := ⟨st, 0, 0⟩ } } = .next t))
    ∧ (cmd.getLsbD 7 = false →
        (clocks ≠ (if s.tally.lcrc then 56 else 48) →
          ∃ tdo, exec (.tallyReadFrame cmd crc clocks) s =
              .next { bad with tally := { bad.tally with tdo := tdo } }
            ∧ (8 ≤ clocks → tdo.status = st) ∧ (clocks ≤ 16 → tdo.data = 0) ∧ (clocks ≤ 48 → tdo.trailer = 0)
            ∧ (s.tally.lcrc = true → crc ≠ crc8 [cmd] → tdo.data = 0
                ∧ (56 ≤ clocks → tdo.trailer = ~~~(crc8 (cmd :: frameBytes 0)))))
        ∧ (clocks = 56 → s.tally.lcrc = true → crc ≠ crc8 [cmd] →
          exec (.tallyReadFrame cmd crc clocks) s =
            .next { badCrc with tally := { badCrc.tally with
              tdo := ⟨st, 0, ~~~(crc8 (cmd :: frameBytes 0))⟩ } })
        ∧ (clocks = (if s.tally.lcrc then 56 else 48) → (s.tally.lcrc = true → crc = crc8 [cmd]) →
          cmd ≠ 0x05 → cmd ≠ 0x1A →
          (∀ w, directValue u .tally cmd.toNat = some w →
            exec (.tallyReadFrame cmd crc clocks) s = .next { u with tally := { u.tally with
              last := .ok
              tdo := ⟨st, w, if s.tally.lcrc then crc8 (cmd :: frameBytes w) else 0⟩ } })
          ∧ (directValue u .tally cmd.toNat = none →
            exec (.tallyReadFrame cmd crc clocks) s = .next { u with tally := { u.tally with
              last := .unmapped, unmapped := true
              tdo := ⟨st, 0, if s.tally.lcrc then ~~~(crc8 (cmd :: frameBytes 0)) else 0⟩ } })))

/-- REGISTER_WRITE of the registers without a row of their own: fields RW take the written value, W1C bits clear, and
nothing else changes (R60, R61, R145, R141, R199, R200, R201, R203, R206, R210, R212, R214, R215, R216, R146).

REGISTER_WRITE: which writes are turned away, and with what outcome (R153, R165, R185, R186, R193, R194, R233). -/
def Obligations.RegisterWrites : Prop :=
  (∀ (path : Path) (v : W) (s : State), mayAccess path s = true →
    let w (idx : BitVec 7) (f : State → State) : Prop :=
      exec (.registerWrite path idx v) s = .next (accessed path f s)
    w 0x03 (fun s => { s with tally := { s.tally with
        crcErr := s.tally.crcErr && !v.bit 4, malformed := s.tally.malformed && !v.bit 5
        unmapped := s.tally.unmapped && !v.bit 6, notReady := s.tally.notReady && !v.bit 7
        denied := s.tally.denied && !v.bit 8, lockedWr := s.tally.lockedWr && !v.bit 9
        poisonRd := s.tally.poisonRd && !v.bit 10
        crcCnt := if v.bit 4 then 0 else s.tally.crcCnt, malCnt := if v.bit 5 then 0 else s.tally.malCnt } })
    ∧ w 0x06 (fun s => match path with
        | .tally => { s with tWin := { s.tWin with step := v.setWidth 8, dir := v.bit 8, page := v.bit 9 } }
        | .usb => { s with uWin := { s.uWin with step := v.setWidth 8, dir := v.bit 8, page := v.bit 9 } })
    ∧ (foreignOwner s path = false → s.cfg.checking = false → s.cfg.isOpen = true →
        w 0x09 (fun s => { s with cfg := { s.cfg with ref := v } }))
    ∧ w 0x11 (fun s => { s with pwr := { s.pwr with
        blkRefused := s.pwr.blkRefused &&& ~~~(BitVec.ofNat 10 (v.bits 25 16)) } })
    ∧ w 0x12 (fun s => { s with stby := { s.stby with
        por := s.stby.por && !v.bit 0, brownout := s.stby.brownout && !v.bit 1, pin := s.stby.pin && !v.bit 2
        soft := s.stby.soft && !v.bit 3, wdog := s.stby.wdog && !v.bit 4, shutdown := s.stby.shutdown && !v.bit 5
        usbrst := s.stby.usbrst && !v.bit 6, incomplete := s.stby.incomplete && !v.bit 24 } })
    ∧ w 0x19 (fun s => { s with hay := { s.hay with
        qovf := s.hay.qovf && !v.bit 3, selfPar := s.hay.selfPar && !v.bit 4 } })
    ∧ w 0x20 (fun s => { s with hay := { s.hay with alertEn := v.setWidth 16 } })
    ∧ w 0x24 (fun s => { s with tick := { s.tick with
        sofMiss := s.tick.sofMiss && !v.bit 2, restep := s.tick.restep && !v.bit 3
        range := s.tick.range && !v.bit 4, ovrAny := s.tick.ovrAny && !v.bit 5 } })
    ∧ w 0x25 (fun s => { s with tick := { s.tick with
        freeTrim := BitVec.ofNat 8 (v.bits 23 16), toutMode := BitVec.ofNat 2 (v.bits 25 24), holdLast := v.bit 31 } })
    ∧ w 0x29 (fun s => { s with field := { s.field with
        busy := s.field.busy && !v.bit 15, swapDone := s.field.swapDone && !v.bit 16
        testFail := s.field.testFail && !v.bit 17, memDone := s.field.memDone && !v.bit 20
        memFail := s.field.memFail && !v.bit 21 } })
    ∧ w 0x2D (fun s => { s with nvm := { s.nvm with
        done := s.nvm.done && !v.bit 1, err := s.nvm.err && !v.bit 2, keyErr := s.nvm.keyErr && !v.bit 3
        refused := s.nvm.refused && !v.bit 4, ecc1 := s.nvm.ecc1 && !v.bit 5, ecc2 := s.nvm.ecc2 && !v.bit 6 } })
    ∧ w 0x2E (fun s => { s with nvm := { s.nvm with data := v } })
    ∧ w 0x31 (fun s => { s with nvm := { s.nvm with
        fFail := s.nvm.fFail && !v.bit 3, fRefused := s.nvm.fRefused && !v.bit 4 } })
    ∧ (path = .tally → w 0x34 (fun s => { s with usb := { s.usb with
        mode := v.setWidth 2, denied := s.usb.denied && !v.bit 9, wrote := s.usb.wrote && !v.bit 10 } }))
    ∧ (v.bits 31 16 ≠ 0x7A11 → w 0x02 (fun s => match path with
        | .tally => { s with tally := { s.tally with lcrc := v.bit 0 } }
        | .usb => s))
    ∧ ∀ k : Fin 8, s.stby.present = true →
        w (BitVec.ofNat 7 (0x38 + k.val)) (fun s =>
          let a := k.val + (if (s.win path).page then 8 else 0)
          { s with stby := { s.stby with
            bkp := wrW s.stby.bkp a v, prev := [(false, a, rdW s.stby.bkp a)] } }))
  ∧ (∀ (path : Path) (idx : BitVec 7) (v : W) (s : State), mayAccess path s = true →
    let n := idx.toNat
    (n ∉ [0, 1, 2, 3, 4, 5, 6, 8, 9, 0xA, 0xB, 0xC, 0x10, 0x11, 0x12, 0x14, 0x18, 0x19, 0x1A, 0x1B, 0x1C, 0x20, 0x21,
        0x24, 0x25, 0x28, 0x29, 0x2C, 0x2D, 0x2E, 0x30, 0x31, 0x34, 0x38, 0x39, 0x3A, 0x3B, 0x3C, 0x3D, 0x3E, 0x3F] →
      exec (.registerWrite path idx v) s = .next (turnedAway path .unmapped s))
    ∧ (n ∈ [0, 1, 0xA, 0xB, 0x1A, 0x21] → exec (.registerWrite path idx v) s = .next (turnedAway path .denied s))
    ∧ (n ∈ [0x30, 0x34] → path = .usb → exec (.registerWrite path idx v) s = .next (turnedAway path .denied s))
    ∧ (n ∈ [8, 9, 0xC] → foreignOwner s path = true →
        exec (.registerWrite path idx v) s = .next (turnedAway path .denied s))
    ∧ (n = 9 → foreignOwner s path = false → s.cfg.checking = true →
        exec (.registerWrite path idx v) s = .next (turnedAway path .denied s))
    ∧ (n = 9 → foreignOwner s path = false → s.cfg.checking = false → s.cfg.isOpen = false →
        exec (.registerWrite path idx v) s = .next (turnedAway path .locked s))
    ∧ (n = 0x18 → s.cfg.isOpen = false → v.bit 0 ≠ s.cfg.hwMode →
        exec (.registerWrite path idx v) s = .next (turnedAway path .locked s)))

/-- Rows of the indirect window (R156, R169 to R173, R177, R193, R195, R201, R638): IWA_WRITE loads IWA and starts the buffer
read; a read of IWD gives the buffered word and steps IWA, or its outcome: DENIED in the commons during the memory test,
NOT_READY (a NAK over USB) before the buffer is ready, UNMAPPED, POISON; a write of IWD is posted, over USB also
delivered, or turned away; the buffer takes the posted word of its own address, else what the address reads as, marking
a commons word it finds in double error; the drain delivers the posted word. That a refused write leaves the buffer
alone is the model's choice (log 73). -/
def Obligations.WindowRows : Prop :=
  ∀ (path : Path) (a : BitVec 24) (v : W) (s : State),
    let w := s.win path
    let here := w.iwa.toNat
    let held := inCommons here && s.field.memRun
    let stepped (s : State) : State := s.onWin path (fun w => { w with
      iwa := if w.dir then w.iwa - w.step.setWidth 24 else w.iwa + w.step.setWidth 24, rdy := false })
    let read (o : Outc) (d : W) (f : State → State) : Prop :=
      let t := f (shown path s)
      match path with
      | .tally => exec (.iwdRead .tally) s = .next { t with tally := { t.tally with
          last := o, denied := s.tally.denied || o = .denied, notReady := s.tally.notReady || o = .notReady
          unmapped := s.tally.unmapped || o = .unmapped, poisonRd := s.tally.poisonRd || o = .poison
          tdo := ⟨BitVec.ofNat 8 (0x50 + s.tally.last.code), d,
            if !s.tally.lcrc then 0
            else if o = .ok ∨ o = .poison then crc8 (5 :: frameBytes d) else ~~~(crc8 (5 :: frameBytes d))⟩ } }
      | .usb => exec (.iwdRead .usb) s = .next (
          if o = .notReady then { t with usb := { t.usb with resp := ⟨.nak, [], []⟩ } }
          else { t with usb := { t.usb with
            last := o, denied := s.usb.denied || o = .denied, active := false
            resp := if o = .denied then ⟨.stall, [], []⟩ else ⟨.ack, [d], []⟩ } })
    (mayAccess path s = true →
      exec (.iwaWrite path a) s = .next (accessed path (fun s => s.onWin path (fun w => { w with iwa := a, rdy := false })) s))
    ∧ (s.pwr.phase ≠ .rest → (path = .tally → clocked s = true) → (path = .usb → vendorUp s = true) →
        (held = true → read .denied 0 id)
        ∧ (held = false → w.rdy = false → read .notReady 0 id)
        ∧ (held = false → w.rdy = true → w.buf.mapped = false → read .unmapped 0 stepped)
        ∧ (held = false → w.rdy = true → w.buf.mapped = true →
            read (if w.buf.poison then .poison else .ok) w.buf.data stepped))
    ∧ (mayAccess path s = true → w.wbuf.isSome = true →
        exec (.iwdWrite path v) s = .next (let t := shown path s
          match path with
          | .tally => { t with tally := { t.tally with last := .notReady, notReady := true } }
          | .usb => { t with usb := { t.usb with resp := ⟨.nak, [], []⟩ } }))
    ∧ (mayAccess path s = true → w.wbuf = none →
        (indGate s path here = .ok → exec (.iwdWrite path v) s = .next (accessed path (fun s =>
          match path with
          | .tally => (stepped s).onWin .tally (fun w => { w with wbuf := some (here, v) })
          | .usb => indEffect here v (stepped s)) s))
        ∧ (indGate s path here = .denied ∨ indGate s path here = .locked →
            exec (.iwdWrite path v) s = .next (turnedAway path (indGate s path here) s))
        ∧ (indGate s path here = .unmapped → ∃ t, exec (.iwdWrite path v) s = .next t
            ∧ t = { s with
                tally := t.tally, usb := t.usb, stby := { s.stby with prev := [] }
                tWin := (stepped s).tWin, uWin := (stepped s).uWin }
            ∧ (path = .tally → t.usb = s.usb ∧ t.tally.last = .unmapped ∧ t.tally.unmapped = true)
            ∧ (path = .usb → t.tally = s.tally ∧ t.usb.last = .unmapped ∧ t.usb.resp = ⟨.ack, [], []⟩)))
    ∧ (clocked s = false ∨ s.pwr.phase = .rest ∨ w.rdy = true → exec (.iwdBufferReady path) s = .next s)
    ∧ (clocked s = true → s.pwr.phase ≠ .rest → w.rdy = false →
        (∀ x, w.wbuf = some (here, x) →
          exec (.iwdBufferReady path) s = .next (s.onWin path (fun w => { w with
            rdy := true, buf := ⟨x, mapped here, false⟩ })))
        ∧ ((∀ x, w.wbuf ≠ some (here, x)) → inCommons here = false →
          exec (.iwdBufferReady path) s = .next (s.onWin path (fun w => { w with rdy := true, buf := indRead s here })))
        ∧ (∀ x, (∀ y, w.wbuf ≠ some (here, y)) → here = 0x100000 + x → x < 0x10000 →
          let c := s.cword x
          exec (.iwdBufferReady path) s = .next ((if c.err = .double ∧ c.poison = false then
              { s.setCword x ⟨c.data, true, .double⟩ with
                hay := { s.hay with raised := s.hay.raised ++ [⟨0x63, 0x08, x⟩] } } else s).onWin path (fun w => { w with
            rdy := true, buf := ⟨c.data, true, c.poison || c.err = .double⟩ }))))
    ∧ (clocked s = true →
        (w.wbuf = none → exec (.iwdWriteDrain path) s = .next s)
        ∧ (∀ x y, w.wbuf = some (x, y) → exec (.iwdWriteDrain path) s =
            .next (indEffect x y (s.onWin path (fun w => { w with wbuf := none }))))
        ∧ (∀ x y, w.wbuf = some (0x80000 + x, y) → x < 512 → s.stby.present = true →
          exec (.iwdWriteDrain path) s = .next { s.onWin path (fun w => { w with wbuf := none }) with
            stby := { s.stby with sram := wrW s.stby.sram x y, prev := (true, x, rdW s.stby.sram x) :: s.stby.prev } })
        ∧ (wfStore 0 s.cfg.space = true → ∀ x y, w.wbuf = some (x, y) → covered x = true →
          ∃ t, exec (.iwdWriteDrain path) s = .next t ∧ rdW t.cfg.space x = cfgStored x y
            ∧ (∀ b, b ≠ x → rdW t.cfg.space b = rdW s.cfg.space b)
            ∧ t.plots = s.plots ∧ t.stby = s.stby ∧ t.mem = s.mem))

/-- RD_REG, WR_REG and the requests turned away (R160, R178, R180, R181, R184, R193). WR_REG of a register other than IWD
does what REGISTER_WRITE does on the USB path. -/
def Obligations.VendorRequests : Prop :=
  ∀ (wValue wIndex wLength : BitVec 16) (v : W) (ws : List W) (b : Byte) (s : State), clocked s = true → s.pwr.phase ≠ .rest →
    let u : State := { s with stby := { s.stby with prev := [] } }
    let stalled : State := { s with usb := { s.usb with resp := ⟨.stall, [], []⟩ } }
    let refused (o : Outc) (d : Bool) : State := { s with usb := { s.usb with
      last := o, denied := s.usb.denied || d, active := false, resp := ⟨.stall, [], []⟩ } }
    let absent : State := { refused .unmapped false with stby := u.stby }
    let napped : State := { u with usb := { s.usb with active := true, resp := ⟨.nak, [], []⟩ } }
    let sent (l : List W) : State := { u with usb := { s.usb with last := .ok, active := false, resp := ⟨.ack, l, []⟩ } }
    (vendorUp s = true →
      (wIndex = 0 → wLength = 4 →
        (∀ x, wValue.toNat ≤ 0x3F → wValue ≠ 5 → wValue ≠ 0x1A → directValue (shown .usb s) .usb wValue.toNat = some x →
          exec (.rdReg wValue wIndex wLength) s = .next (sent [x]))
        ∧ (wValue.toNat ≤ 0x3F → directValue (shown .usb s) .usb wValue.toNat = none →
          exec (.rdReg wValue wIndex wLength) s = .next absent)
        ∧ (wValue = 0x1A → s.tally.hold = true → exec (.rdReg wValue wIndex wLength) s = .next napped)
        ∧ (wValue = 0x1A → s.tally.hold = false → exec (.rdReg wValue wIndex wLength) s =
            .next { sent [s.hay.queue.headD 0] with hay := { s.hay with queue := s.hay.queue.drop 1 } })
        ∧ (wValue = 5 → s.uWin.rdy = false → (inCommons s.uWin.iwa.toNat && s.field.memRun) = false →
          exec (.rdReg wValue wIndex wLength) s = .next napped)
        ∧ (wValue = 5 → s.uWin.rdy = true → (inCommons s.uWin.iwa.toNat && s.field.memRun) = false →
            s.uWin.buf.mapped = true → s.uWin.buf.poison = false →
          exec (.rdReg wValue wIndex wLength) s = .next { sent [s.uWin.buf.data] with uWin := { s.uWin with
            rdy := false
            iwa := if s.uWin.dir then s.uWin.iwa - s.uWin.step.setWidth 24 else s.uWin.iwa + s.uWin.step.setWidth 24 } })
        ∧ (0x3F < wValue.toNat →
          exec (.rdReg wValue wIndex wLength) s = .next absent
          ∧ exec (.wrReg wValue wIndex wLength v) s = .next absent)
        ∧ (wValue.toNat ≤ 0x3F → wValue ≠ 5 → ∃ t, exec (.wrReg wValue wIndex wLength v) s = .next t
          ∧ exec (.registerWrite .usb (wValue.setWidth 7) v) s = .next t)
        ∧ (wValue = 5 → s.usb.mode = 2 → s.uWin.wbuf = none → indGate s .usb s.uWin.iwa.toNat = .ok →
          ∃ t, exec (.wrReg wValue wIndex wLength v) s = .next t ∧ t.usb.resp = ⟨.ack, [], []⟩ ∧ t.usb.last = .ok
            ∧ t.uWin.wbuf = none))
      ∧ ((wIndex ≠ 0 ∨ wLength ≠ 4) →
        exec (.rdReg wValue wIndex wLength) s = .next (refused .malformed false)
        ∧ exec (.wrReg wValue wIndex wLength v) s = .next (refused .malformed false))
      ∧ ((256 ≤ wIndex.toNat ∨ wLength.toNat % 4 ≠ 0 ∨ wLength = 0 ∨ 64 < wLength.toNat) →
        exec (.rdInd wValue wIndex wLength) s = .next (refused .malformed false)
        ∧ exec (.wrInd wValue wIndex wLength ws) s = .next (refused .malformed false))
      ∧ exec (.iwdRead .usb) s = exec (.rdReg 5 0 4) s
      ∧ exec (.iwdWrite .usb v) s = exec (.wrReg 5 0 4 v) s)
    ∧ (s.hub.pullup = true → s.hub.susp = false → s.hub.addr = 0 →
      exec (.rdReg wValue wIndex wLength) s = .next stalled
      ∧ exec (.wrReg wValue wIndex wLength v) s = .next stalled
      ∧ exec (.rdInd wValue wIndex wLength) s = .next stalled
      ∧ exec (.wrInd wValue wIndex wLength ws) s = .next stalled)
    ∧ (s.hub.pullup = true → s.hub.susp = false → s.hub.addr ≠ 0 → (s.usb.mode = 0 ∨ s.usb.mode = 3) →
      exec (.rdReg wValue wIndex wLength) s = .next (refused .denied true)
      ∧ exec (.wrReg wValue wIndex wLength v) s = .next (refused .denied true)
      ∧ exec (.rdInd wValue wIndex wLength) s = .next (refused .denied true)
      ∧ exec (.wrInd wValue wIndex wLength ws) s = .next (refused .denied true))
    ∧ (s.hub.pullup = true → s.hub.susp = false → b.toNat < 0xB0 ∨ 0xB3 < b.toNat →
      exec (.unsupportedVendorRequest b) s = .next stalled)

/-- RD_IND and WR_IND over a run of words (R169, R178, R181, R186): a read outside the commons returns the words at IWA,
IWA + STEP and so on, with outcome UNMAPPED when one of them is unmapped; a write into the standby SRAM puts each word
in its place, and sets USB_WROTE where one of them changed; a request whose first word is refused changes no word and no
window. -/
def Obligations.IndirectRequests : Prop :=
  ∀ (wValue wIndex wLength : BitVec 16) (s : State),
    vendorUp s = true → s.pwr.phase ≠ .rest → s.uWin.wbuf = none → wIndex.toNat < 256 →
    ∀ n : Nat, 1 ≤ n → n ≤ 16 → wLength.toNat = 4 * n →
    let a0 : BitVec 24 := BitVec.ofNat 24 (wValue.toNat + 65536 * wIndex.toNat)
    let at_ (i : Nat) : BitVec 24 :=
      if s.uWin.dir then a0 - BitVec.ofNat 24 (i * s.uWin.step.toNat) else a0 + BitVec.ofNat 24 (i * s.uWin.step.toNat)
    ((∀ i < n, inCommons (at_ i).toNat = false) →
      exec (.rdInd wValue wIndex wLength) s = .next { s with
        stby := { s.stby with prev := [] }
        uWin := { s.uWin with iwa := at_ n, rdy := false }
        usb := { s.usb with
          last := if (List.range n).all (fun i => (indRead s (at_ i).toNat).mapped) then .ok else .unmapped
          active := false, resp := ⟨.ack, (List.range n).map (fun i => (indRead s (at_ i).toNat).data), []⟩ } })
    ∧ (∀ (ws : List W) (x : Nat), ws.length = n → s.usb.mode = 2 → s.stby.present = true → wfStore 0 s.stby.sram = true →
        s.uWin.dir = false → s.uWin.step = 1 → a0.toNat = 0x80000 + x → x + n ≤ 512 →
      ∃ t, exec (.wrInd wValue wIndex wLength ws) s = .next t
        ∧ (∀ i < n, rdW t.stby.sram (x + i) = ws.getD i 0)
        ∧ (∀ k, (k < x ∨ x + n ≤ k) → rdW t.stby.sram k = rdW s.stby.sram k)
        ∧ t.usb.last = .ok ∧ t.usb.resp = ⟨.ack, [], []⟩ ∧ t.uWin.iwa = at_ n
        ∧ t.usb.wrote = (s.usb.wrote || (List.range n).any (fun i => ws.getD i 0 != rdW s.stby.sram (x + i)))
        ∧ t = { s with
            usb := t.usb, uWin := t.uWin, stby := { s.stby with sram := t.stby.sram, prev := t.stby.prev } })
    ∧ (∀ ws : List W, ws.length = n → s.usb.mode = 2 → refusing (indGate s .usb a0.toNat) = true →
      exec (.wrInd wValue wIndex wLength ws) s = .next { s with
        stby := { s.stby with prev := [] }
        usb := { s.usb with
          last := indGate s .usb a0.toNat, denied := true, active := false, resp := ⟨.stall, [], []⟩ } })

/-- NVM_READ, NVM_WRITE, NVM_ERASE and the ends of their pulses (R130, R211, R212). The word of a WRITE that fails its
verify is open. -/
def Obligations.SeedStoreRows : Prop :=
  (∀ (path : Path) (a : BitVec 14) (s : State), mayAccess path s = true →
    (s.nvm.op = none →
      exec (.nvmRead path a) s = .next (accessed path (fun s => { s with nvm := { s.nvm with
        addr := a, data := (s.seedWord a.toNat).data, done := true
        ecc1 := (s.seedWord a.toNat).ecc = .single, ecc2 := (s.seedWord a.toNat).ecc = .double } }) s)
      ∧ (s.seedWord a.toNat = ⟨0xFFFFFFFF, .good⟩ →
        exec (.nvmWrite path a) s = .next (accessed path (fun s => { s with nvm := { s.nvm with
          addr := a, op := some (.write, a.toNat, s.nvm.data) } }) s))
      ∧ (s.seedWord a.toNat ≠ ⟨0xFFFFFFFF, .good⟩ →
        exec (.nvmWrite path a) s = .next (accessed path (fun s => { s with nvm := { s.nvm with
          addr := a, done := true, err := true } }) s))
      ∧ exec (.nvmErase path a) s = .next (accessed path (fun s => { s with nvm := { s.nvm with
          addr := a, op := some (.erase, a.toNat, 0) } }) s))
    ∧ (s.nvm.op.isSome = true →
      let busy := accessed path (fun s => { s with nvm := { s.nvm with addr := a, refused := true } }) s
      exec (.nvmRead path a) s = .next busy ∧ exec (.nvmWrite path a) s = .next busy
      ∧ exec (.nvmErase path a) s = .next busy))
  ∧ (∀ (a : Nat) (v : W) (s : State), clocked s = true → wfStore erasedWord s.nvm.store = true →
    (s.nvm.op = some (.write, a, v) →
      (∃ t, exec (.nvmWriteDone true) s = .next t ∧ t.seedWord a = ⟨v, .good⟩
        ∧ (∀ b, b ≠ a → t.seedWord b = s.seedWord b)
        ∧ t = { s with nvm := { s.nvm with store := t.nvm.store, op := none, done := true } })
      ∧ ∃ t, exec (.nvmWriteDone false) s = .next t
        ∧ (∀ b, b ≠ a → t.seedWord b = s.seedWord b)
        ∧ t = { s with nvm := { s.nvm with store := t.nvm.store, op := none, done := true, err := true }, free := t.free })
    ∧ (s.nvm.op = some (.erase, a, v) →
      (∃ t, exec (.nvmEraseDone true) s = .next t
        ∧ (∀ b, t.seedWord b = if b / 512 = a / 512 then ⟨0xFFFFFFFF, .good⟩ else s.seedWord b)
        ∧ t = { s with nvm := { s.nvm with store := t.nvm.store, op := none, done := true } })
      ∧ ∃ t, exec (.nvmEraseDone false) s = .next t
        ∧ (∀ b, b / 512 ≠ a / 512 → t.seedWord b = s.seedWord b)
        ∧ t = { s with nvm := { s.nvm with store := t.nvm.store, op := none, done := true, err := true }, free := t.free }))
  ∧ ∀ (a : Nat) (v : W) (s : State), s.pwr.phase = .held → s.pwr.porDone = true → s.pwr.rstN = true → s.nvm.fBusy = false →
      s.nvm.op = some (.write, a, v) →
      exec (.nvmWriteDone true) s = .next { s with
        nvm := { s.nvm with store := wrStore erasedWord s.nvm.store a ⟨v, .good⟩, op := none }
        pwr := { s.pwr with phase := .seeding } }

/-- The rows of the field fuse (R603, R604): ARM and BLOW act with their keys, in STARTUP and QUIESCE, from the tally
port; every other FUSE_CTL write of these rows is refused. A blown fuse closes the factory access. -/
def Obligations.FuseRows : Prop :=
  (∀ (key : BitVec 16) (s : State), mayAccess .tally s = true →
    let may := !s.nvm.fBusy && !s.nvm.fBlown && (s.pwr.phase = .startup || s.pwr.phase = .quiesce)
    exec (.fuseArm .tally key) s = .next (accessed .tally (fun s => if key = 0xC105 ∧ may = true then
        { s with nvm := { s.nvm with fArmed := true, fArmedAt := s.tick.now } }
      else { s with nvm := { s.nvm with fRefused := true } }) s)
    ∧ exec (.fuseBlow .tally key) s = .next (accessed .tally (fun s =>
      if key = 0xB10E ∧ s.nvm.fArmed = true ∧ may = true then { s with nvm := { s.nvm with fBusy := true } }
      else { s with nvm := { s.nvm with fRefused := true } }) s)
    ∧ (mayAccess .usb s = true → exec (.fuseArm .usb key) s = .next (turnedAway .usb .denied s)
      ∧ exec (.fuseBlow .usb key) s = .next (turnedAway .usb .denied s)))
  ∧ ∀ s : State,
    (s.nvm.fArmed = true → s.nvm.fBusy = false → s.nvm.fArmedAt + 64 ≤ s.tick.now →
      exec .fuseArmExpire s = .next { s with nvm := { s.nvm with fArmed := false } })
    ∧ (s.nvm.fBusy = true → clocked s = true →
      exec (.fuseBlowDone true) s = .next { s with
        nvm := { s.nvm with fBusy := false, fArmed := false, fCut := false, fBlown := true }
        pwr := { s.pwr with factory := false } }
      ∧ exec (.fuseBlowDone false) s = .next { s with
        nvm := { s.nvm with fBusy := false, fArmed := false, fCut := false, fFail := true } })

/-! ### The Hayward and the TAP -/

/-- HW_MSG_READ and the Hayward's direct registers (R156, R158 to R160, R205, R207 to R209, R565, R566, R569, R572): the
message a tally read captured is held for it and removed at its end, if it is still the oldest. -/
def Obligations.HaywardRegisters : Prop :=
  ∀ (path : Path) (on : Bool) (key : BitVec 16) (s : State),
    let st : Byte := BitVec.ofNat 8 (0x50 + s.tally.last.code)
    let m := s.hay.queue.headD 0
    let u : State := { s with stby := { s.stby with prev := [] } }
    (clocked s = true → s.pwr.phase ≠ .rest →
      exec (.hwMsgRead .tally .capture) s = .next { u with tally := { s.tally with
          hold := true, holdMsg := !s.hay.queue.isEmpty
          tdo := ⟨st, m, if s.tally.lcrc then crc8 (0x1A :: frameBytes m) else 0⟩ } }
      ∧ (s.tally.hold = true → exec (.hwMsgRead .tally .finish) s = .next { s with
          tally := { s.tally with hold := false, holdMsg := false, last := .ok }
          hay := { s.hay with queue := if s.tally.holdMsg then s.hay.queue.drop 1 else s.hay.queue } })
      ∧ (vendorUp s = true → s.tally.hold = true → ∀ g, exec (.hwMsgRead .usb g) s = .next { u with
          usb := { s.usb with active := true, resp := ⟨.nak, [], []⟩ } })
      ∧ (vendorUp s = true → s.tally.hold = false →
        exec (.hwMsgRead .usb .capture) s = .next { u with usb := { s.usb with active := true } }
        ∧ exec (.hwMsgRead .usb .finish) s = .next { u with
          usb := { s.usb with last := .ok, active := false, resp := ⟨.ack, [m], []⟩ }
          hay := { s.hay with queue := s.hay.queue.drop 1 } }))
    ∧ (mayAccess path s = true →
      exec (.hwQueueClear path) s = .next (accessed path (fun s => { s with
        hay := { s.hay with queue := [] }, tally := { s.tally with holdMsg := false } }) s)
      ∧ exec (.injArm path on) s = .next (accessed path (fun s => { s with hay := { s.hay with injArm := on } }) s)
      ∧ exec (.faultHoldRelease path) s = .next (accessed path (fun s => { s with hay := (
          if s.hay.minRun then { s.hay with holdClr := true } else { s.hay with hold := false }) }) s)
      ∧ exec (.faultForce path on) s = .next (accessed path (fun s => { s with hay := { s.hay with force := on } }) s)
      ∧ (key ≠ 0x5EED →
        exec (.safeEnter path key) s = .next (accessed path id s)
        ∧ exec (.safeRelease path key) s = .next (accessed path id s))
      ∧ exec (.safeRelease path 0x5EED) s = .next (accessed path (fun s => { s with hay := (
          if s.hay.safeDev = false then s.hay
          else if severeAny s then { s.hay with relRefused := true } else { s.hay with relReq := true }) }) s))
    ∧ (s.hay.minRun = true → exec .faultMinRunEnd s = .next { s with hay := { s.hay with
        minRun := false, hold := s.hay.hold && !s.hay.holdClr, holdClr := false } })

/-- EVENT_LATCH in a device that does not rest (R543, R544, R547, R549, R553 to R556, R562, R565): in local mode an event
that is no hazard leaves only the list of raised events; in collector mode a COLLECT source's event becomes a message,
and a counted one is counted: the source is severe when its newest N events lie within W ticks, with a message, an
entry more, its hold begun and, where its FAULT bit says so, a hardware assertion.

A message enters the queue and the endpoint 3 ring (R549 to R551): the queue takes 60 messages, and the last 4 places
only those that say so; a full ring drops its oldest. -/
def Obligations.EventsAndMessages : Prop :=
  (∀ s : State, clocked s = true → s.pwr.phase ≠ .rest →
    ∀ (e : Event) (l : List Event), s.hay.raised = e :: l → kindHazard e.kind = false →
    let s0 : State := { s with hay := { s.hay with raised := l } }
    let s1 := if srcCollect s.cfg.hwTable e.src then
      writeMsg false (mkW [(0, 18, e.addr), (18, 6, e.kind), (24, 8, e.src)]) s0 else s0
    (s.hay.mode = false → exec .eventLatch s = .next s0)
    ∧ (s.hay.mode = true → kindInfo e.kind = true → exec .eventLatch s = .next s1)
    ∧ (s.hay.mode = true → kindInfo e.kind = false → wfStore noSrc s.hay.srcs = true →
        let stamps := (s.tick.now :: (s.src e.src).stamps).take 15
        let full := match stamps[effN s e.src - 1]? with
          | some t => decide (s.tick.now - t < effW s e.src)
          | none => false
        (((s.src e.src).severe || !full) = true →
          ∃ t, exec .eventLatch s = .next t ∧ (t.src e.src).stamps = stamps
            ∧ (t.src e.src).severe = (s.src e.src).severe
            ∧ ((s.src e.src).severe = true → (t.src e.src).hold = (holdTicks s e.src).map (s.tick.now + ·))
            ∧ (∀ c, c ≠ e.src → t.src c = s.src c)
            ∧ t = { s1 with hay := { s1.hay with srcs := t.hay.srcs } })
        ∧ ((s.src e.src).severe = false → full = true → safeScope s.nvm.opt e.src = .none →
            ¬(1 ≤ e.src ∧ e.src ≤ 0x3F) →
          ∃ t, exec .eventLatch s = .next t
            ∧ t.src e.src = ⟨true, stamps, (holdTicks s e.src).map (s.tick.now + ·), .none, (s.src e.src).entries + 1⟩
            ∧ (∀ c, c ≠ e.src → t.src c = s.src c)
            ∧ (safeFault s.nvm.opt e.src = true →
                t.hay.minRun = true ∧ t.hay.hold = true ∧ t.hay.minLen = clampTo 1 200 s.hay.fmin.toNat)
            ∧ (s1.hay.queue.length < 64 →
                t.hay.queue = s1.hay.queue ++ [mkW [(0, 18, e.kind), (18, 6, 0x3D), (24, 8, e.src)]])
            ∧ t = { s with hay := t.hay, hub := t.hub })))
  ∧ (∀ (kept : Bool) (w : W) (s : State),
    (writeMsg kept w s).hay = (if s.hay.queue.length < (if kept then 64 else 60) then
        { s.hay with queue := s.hay.queue ++ [w] } else { s.hay with qovf := true })
    ∧ (writeMsg kept w s).hub.ring = (if s.hub.ring.length < 64 then s.hub.ring ++ [w] else s.hub.ring.drop 1 ++ [w])
    ∧ (writeMsg kept w s).hub.ringLost = (s.hub.ringLost || decide (64 ≤ s.hub.ring.length))
    ∧ writeMsg kept w s = { s with hay := (writeMsg kept w s).hay, hub := (writeMsg kept w s).hub })

/-- SAFE_ENTER with its key and SELF_PAR (R565, R567, R570): the device safe state seizes every plot and takes every port
and culvert, and FAULT_N is asserted for MIN_RUN and held; while the safe state stands a further cause only writes its
message and restarts MIN_RUN. -/
def Obligations.DeviceSafeState : Prop :=
  ∀ (path : Path) (s : State), s.plots.length = 63 → s.ports.length = 16 →
    let safe (t : State) : Prop := t.hay.safeDev = true ∧ t.hay.minRun = true ∧ t.hay.hold = true
      ∧ t.hay.minLen = clampTo 1 200 s.hay.fmin.toNat
    let taken (t : State) : Prop := (∀ p < 63, (t.plot p).seized = true) ∧ (∀ n < 16, (t.port n).safe = true)
      ∧ t.culvs.c1.safe = true ∧ t.culvs.c2.safe = true ∧ t.culvs.c3.safe = true ∧ t.culvs.bus.held = false
    (mayAccess path s = true →
      ∃ t, exec (.safeEnter path 0x5EED) s = .next t ∧ safe t
        ∧ (s.hay.safeDev = false → taken t)
        ∧ (s.hay.safeDev = true →
            t.plots = s.plots ∧ t.ports = s.ports ∧ t.culvs = s.culvs ∧ t.sluices = s.sluices ∧ t.mem = s.mem)
        ∧ t.tick = s.tick ∧ t.stby = { s.stby with prev := [] } ∧ t.nvm = s.nvm)
    ∧ (∀ (word : Byte) (ok : Bool), clocked s = true → s.pwr.phase ≠ .rest →
      ∃ t, exec (.selfPar word ok) s = .next t ∧ safe t ∧ t.hay.selfPar = true
        ∧ (s.hay.safeDev = false → taken t)
        ∧ t.tick = s.tick ∧ t.stby = s.stby ∧ t.nvm = s.nvm)

/-- SEVERE_RELEASE and SAFE_RELEASE_APPLY (R562, R569).

EVENT_RING_IN (R284, R551, R552, R568): a packet carries ALERT_SRC, its count, flags and SEQ, TICK_COUNT and up to 14
messages; the messages leave the ring when the host acknowledges, and an unacknowledged packet is sent again. -/
def Obligations.ReleasesAndRing : Prop :=
  ((∀ (c : BitVec 7) (s : State), clocked s = true → (s.src c.toNat).severe = true →
      ∀ h, (s.src c.toNat).hold = some h → h ≤ s.tick.now → wfStore noSrc s.hay.srcs = true → s.ports.length = 16 →
    ∃ t, exec (.severeRelease c) s = .next t
      ∧ t.src c.toNat = { s.src c.toNat with severe := false, hold := none }
      ∧ (∀ k, k ≠ c.toNat → t.src k = s.src k)
      ∧ (s.hay.queue.length < 64 → t.hay.queue = s.hay.queue ++ [mkW [(18, 6, 0x3F), (24, 8, c.toNat)]])
      ∧ (∀ n < 16, t.port n = { s.port n with safe := (s.port n).safe && heldPort t n })
      ∧ t = { s with hay := t.hay, hub := t.hub, ports := t.ports })
  ∧ ∀ s : State, clocked s = true → s.hay.relReq = true → s.ports.length = 16 →
    (severeAny s = true →
      exec .safeReleaseApply s = .next { s with hay := { s.hay with relReq := false, relRefused := true } })
    ∧ (severeAny s = false →
      ∃ t, exec .safeReleaseApply s = .next t
        ∧ t.hay = { s.hay with relReq := false, safeDev := false }
        ∧ t.cfg = { s.cfg with hwTable := sliceStore s.cfg.space 0x50000 0x50400 }
        ∧ (∀ n < 16, t.port n = { s.port n with safe := (s.port n).safe && heldPort t n })
        ∧ t = { s with hay := t.hay, cfg := t.cfg, ports := t.ports }))
  ∧ (∀ (a : Bool) (s : State), funcUp s = true → (s.ep 19).halted = false → epServes s 3 = true →
    let ms := s.hub.ring.take 14
    let h := mkW [(0, 16, alertSrc s), (16, 4, ms.length),
      (20, 4, flagsW [s.hub.ringLost, s.hay.qovf, s.hay.safeDev, severeAny s]), (24, 8, s.hub.ringSeq.toNat)]
    let pkt := h :: s.tick.count :: ms
    let sent (l : List W) : UsbAcc := { s.usb with resp := ⟨.ack, l, []⟩ }
    (s.hub.ringOut = none → s.hub.ring = [] → BitVec.ofNat 16 (alertSrc s) = s.hub.ringAlert →
      exec (.eventRingIn a) s = .next { s with usb := { s.usb with resp := ⟨.nak, [], []⟩ } })
    ∧ (s.hub.ringOut = none → s.hub.ring ≠ [] →
      exec (.eventRingIn false) s = .next { s with
        usb := sent pkt, hub := { s.hub with ringOut := some (ms.length, pkt), ringSeq := s.hub.ringSeq + 1 } }
      ∧ exec (.eventRingIn true) s = .next { s with
        usb := sent pkt
        hub := { s.hub with
          ring := s.hub.ring.drop ms.length, ringLost := false, ringOut := none, ringSeq := s.hub.ringSeq + 1
          ringAlert := h.setWidth 16 } })
    ∧ (∀ n p, s.hub.ringOut = some (n, p) →
      exec (.eventRingIn false) s = .next { s with usb := sent p }
      ∧ exec (.eventRingIn true) s = .next { s with
        usb := sent p
        hub := { s.hub with
          ring := s.hub.ring.drop n, ringLost := false, ringOut := none, ringAlert := (p.headD 0).setWidth 16 } }))

/-- The commands of the TAP (R598, R599, R601, R602): each instruction with the register it captures; Update-DR loads the
boundary register where it is selected. No other state changes. -/
def Obligations.TapRows : Prop :=
  ∀ (levels bits : BitVec 177) (s : State),
    let sel (i : TapIr) (v : BitVec 177) : Host.Outcome State Fault Refusal :=
      .next { s with tap := { s.tap with ir := i, shift := v } }
    exec .tapReset s = .next { s with tap := { s.tap with ir := .idcode } }
    ∧ exec .extest s = .next { s with tap := { s.tap with ir := .extest } }
    ∧ exec .idcode s = sel .idcode 0x264169D3
    ∧ exec (.samplePreload levels) s = sel .sample levels
    ∧ exec .highz s = sel .highz 0
    ∧ exec .clamp s = sel .clamp 0
    ∧ exec .bypass s = sel .bypass 0
    ∧ (s.pwr.factory = true → exec .ftap s = sel .ftap 0)
    ∧ (s.pwr.factory = false → exec .ftap s = sel .bypass 0)
    ∧ (s.tap.ir = .extest ∨ s.tap.ir = .sample →
        exec (.updateDr bits) s = .next { s with tap := { s.tap with shift := bits, upd := bits } })
    ∧ (s.tap.ir ≠ .extest → s.tap.ir ≠ .sample → exec (.updateDr bits) s = .next s)

/-! ### The hub, its ports and the splits -/

/-- The hub class requests that end at the hub controller, and the TT requests (R259, R263, R279). The places of the
status and descriptor fields are those of USB 2.0 (log 15). -/
def Obligations.HubRequests : Prop :=
  ∀ (s : State), usbUp s = true →
    let say (hs : Hs) (bytes : List Byte) : State := { s with usb := { s.usb with resp := ⟨hs, [], bytes⟩ } }
    exec .getHubStatus s = .next (say .ack [0, 0, 0, 0])
    ∧ (∀ f : BitVec 16, exec (.clearHubFeature f) s = .next (if f = 0 ∨ f = 1 then say .ack [] else say .stall []))
    ∧ exec .getHubDescriptor s = .next (say .ack
        ([13, 0x29, 17] ++ le16 (0x0D + 32 * (rdW s.nvm.opt 17).bits 1 0)
          ++ [BitVec.ofNat 8 ((rdW s.nvm.opt 16).bits 23 16), BitVec.ofNat 8 ((rdW s.nvm.opt 16).bits 31 24),
            BitVec.ofNat 8 (2 * (rdW s.nvm.opt 19).bits 7 1), BitVec.ofNat 8 ((rdW s.nvm.opt 19).bits 15 8),
            BitVec.ofNat 8 ((rdW s.nvm.opt 19).bits 16 16 + 2), 0xFF, 0xFF, 0xFF]))
    ∧ exec .setHubDescriptor s = .next (say .stall [])
    ∧ exec .getTtState s = .next (say .stall [])
    ∧ (∀ n : HubPortId, exec (.getPortStatus n) s =
        .next (say .ack (le16 (portStatus s n.val) ++ le16 (portChange s n.val)))
        ∧ exec (.setPortFeatureIndicator n) s = .next (say .stall []))
    ∧ (∀ k i : Byte, exec (.getDescriptor false k i) s = .next (match descriptor s false k.toNat i.toNat with
        | some bs => say .ack bs
        | none => say .stall []))
    ∧ (∀ (tt : BitVec 16) (d : BitVec 7) (e : TtEndpoint), ttPorts s tt.toNat = none →
        exec (.clearTtBuffer tt d e) s = .next (say .stall []) ∧ exec (.resetTt tt) s = .next (say .stall [])
        ∧ exec (.stopTt tt) s = .next (say .stall []))
    ∧ (∀ (tt : BitVec 16) (l : List Nat), ttPorts s tt.toNat = some l →
        exec (.stopTt tt) s = .next { say .ack [] with
          hub := { s.hub with halted := l.foldl (fun r n => insNat n r) s.hub.halted } }
        ∧ (∀ (d : BitVec 7) (e : TtEndpoint),
            let named (x : Split) : Prop := l.contains x.port = true ∧ x.dev = d.toNat ∧ x.ep = e.num.toNat
              ∧ x.dirIn = e.dirIn ∧ x.periodic = false ∧ x.closed = false
            ((∀ x ∈ s.hub.splits, ¬named x) → exec (.clearTtBuffer tt d e) s = .next (say .ack []))
            ∧ (wfStore noEntry s.mem.ledger = true →
              ∃ t, exec (.clearTtBuffer tt d e) s = .next t
                ∧ (∀ x ∈ s.hub.splits, named x → (t.entry x.id).opn = false)
                ∧ (∀ i, (∀ x ∈ s.hub.splits, named x → x.id ≠ i) → t.entry i = s.entry i)
                ∧ t = { say .ack [] with hub := t.hub, mem := t.mem }))
        ∧ ((∀ x ∈ s.hub.splits, l.contains x.port = true → x.closed = true) →
            exec (.resetTt tt) s = .next { say .ack [] with
              hub := { s.hub with ttReset := l.foldl (fun r n => insNat n r) s.hub.ttReset } }))

/-- The device requests of the hub (R268, R271, R293, R301): its address, configuration, remote wake and presentation.
Port 17 reads connected once the hub is configured.

The requests of the rack function's control pipe, served while port 17 is enabled and the lowest FUNC plot runs (R284,
R288, R291 to R293, R301): SET_CARVE holds its parcels or is answered with STALL and changes nothing. That a packet
which still waits for room counts as data is the model's choice (log 84). -/
def Obligations.ControlPipes : Prop :=
  (∀ (s : State), usbUp s = true →
    let say (hs : Hs) (h : Hub) : State := { s with usb := { s.usb with resp := ⟨hs, [], []⟩ }, hub := h }
    (∀ a : BitVec 7, exec (.setAddress false a) s = .next (say .ack { s.hub with addr := a }))
    ∧ exec (.setFeature false) s = .next (say .ack { s.hub with rwake := true })
    ∧ exec (.clearFeature false none) s = .next (say .ack { s.hub with rwake := false })
    ∧ (∀ e : Fin 16, exec (.clearFeature false (some e)) s = .next (say .ack s.hub))
    ∧ exec (.setInterface 0) s = .next (say .ack { s.hub with mtt := false })
    ∧ exec (.setInterface 1) s = .next (if (rdW s.nvm.opt 17).bit 2 = true ∧ s.hub.speed = 2 then
        say .ack { s.hub with mtt := true } else say .stall s.hub)
    ∧ (∀ alt : Byte, 1 < alt.toNat → exec (.setInterface alt) s = .next (say .stall s.hub))
    ∧ (s.hub.addr ≠ 0 → s.hub.ports.length = 17 →
        exec (.setConfiguration false 0) s = .next (say .ack { s.hub with configured := false })
        ∧ ∃ t, exec (.setConfiguration false 1) s = .next t ∧ t.hub.configured = true
          ∧ (t.hubPort 16).st = (if (s.hubPort 16).st = .disconnected then .disabled else (s.hubPort 16).st)
          ∧ (∀ n, n < 16 → t.hubPort n = s.hubPort n)
          ∧ t = say .ack { s.hub with configured := true, ports := t.hub.ports })
    ∧ (∀ v : Byte, (s.hub.addr = 0 ∨ 1 < v.toNat) → exec (.setConfiguration false v) s = .next (say .stall s.hub)))
  ∧ (∀ (s : State), funcUp s = true → optRuns s (s.funcPlot 0) = true →
    let say (hs : Hs) : State := { s with usb := { s.usb with resp := ⟨hs, [], []⟩ } }
    (∀ a : BitVec 7, exec (.setAddress true a) s = .next { say .ack with hub := { s.hub with fAddr := a } })
    ∧ exec (.setFeature true) s = .next { say .ack with hub := { s.hub with fRwake := true } }
    ∧ exec (.clearFeature true none) s = .next { say .ack with hub := { s.hub with fRwake := false } }
    ∧ (∀ (k i : Byte) (bs : List Byte), descriptor s true k.toNat i.toNat = some bs →
        exec (.getDescriptor true k i) s = .next { s with usb := { s.usb with resp := ⟨.ack, [], bs⟩ } })
    ∧ (∀ e : Fin 16, wfStore FEp.reset s.hub.eps = true → ∃ t, exec (.clearFeature true (some e)) s = .next t
        ∧ t.ep e.val = { s.ep e.val with halted := false } ∧ t.ep (e.val + 16) = { s.ep (e.val + 16) with halted := false }
        ∧ (∀ i, i ≠ e.val → i ≠ e.val + 16 → t.ep i = s.ep i)
        ∧ t = { say .ack with hub := { s.hub with eps := t.hub.eps } })
    ∧ (s.hub.fAddr ≠ 0 →
        exec (.setConfiguration true 1) s = .next { say .ack with hub := { s.hub with fConfigured := true } }
        ∧ ∃ t, exec (.setConfiguration true 0) s = .next t ∧ t.hub.fConfigured = false ∧ t.hub.eps = []
          ∧ t = { say .ack with hub := t.hub, plots := t.plots })
    ∧ (∀ (a k : Byte), epIndex a = none → exec (.setCarve a k) s = .next (say .stall) ∧ exec (.getCarve a) s = .next (say .stall))
    ∧ (∀ (a k : Byte) (e : Nat), epIndex a = some e → ∀ p, s.funcPlot (e % 16) = some p →
        let old := (s.ep e).k
        let l := (s.plot p).parcels
        let n := l.length - old + k.toNat
        let fails := k = 1 ∨ heldPackets s e ≠ [] ∨ (s.ep e).wait ≠ [] ∨ cParcelCap (s.plot p).wc p < n
          ∨ freeParcels s < k.toNat - old
        (fails → exec (.setCarve a k) s = .next (say .stall))
        ∧ (¬fails → s.plots.length = 63 → p < 63 → wfStore FEp.reset s.hub.eps = true →
          ∃ t, exec (.setCarve a k) s = .next t
            ∧ t.ep e = { s.ep e with k := k.toNat } ∧ (∀ i, i ≠ e → t.ep i = s.ep i)
            ∧ (t.plot p).parcels.length = min n (l.length + freeParcels s)
            ∧ t.plot p = { s.plot p with
                parcels := (t.plot p).parcels, zeroing := (s.plot p).zeroing ++ l.take (l.length - n) }
            ∧ (n ≤ l.length → (t.plot p).parcels = l.drop (l.length - n))
            ∧ (∀ q, q ≠ p → t.plot q = s.plot q)
            ∧ t = { say .ack with hub := { s.hub with eps := t.hub.eps }, plots := t.plots, free := t.free })
        ∧ exec (.getCarve a) s = .next { s with usb := { s.usb with resp := ⟨.ack, [],
            [BitVec.ofNat 8 old,
              BitVec.ofNat 8 (if old = 0 then 0 else ((heldPackets s e).map (fun p => parcelsOf p.length)).sum),
              if old = 0 then 0 else 1, 0]⟩ } }))

/-- The port features (R258, R263, R265, R268, R269, R467, R491): each is handed to the port's warden for the next
boundary and acknowledged; port 17 has no power feature and no test mode; a latch holds a port off.

PORT_ACTION_START (R258, R265 to R268, R281): what a requested action, or a connect that waited for the warden, does to
the state the port is in, and that a request the table does not name there has no effect. -/
def Obligations.PortRequests : Prop :=
  (∀ (n : HubPortId) (s : State), usbUp s = true →
    let say (hs : Hs) : State := { s with usb := { s.usb with resp := ⟨hs, [], []⟩ } }
    let hand (a : PAction) : State := { say .ack with
      hub := { s.hub with ports := updNth s.hub.ports n.val (fun h => { h with act := h.act ++ [a] }) } }
    let typeC := 12 ≤ n.val ∧ tcEn s (n.val - 12) = true
    exec (.setPortFeatureReset n) s = .next (hand .reset)
    ∧ exec (.setPortFeatureSuspend n) s = .next (hand .suspend)
    ∧ exec (.clearPortFeatureEnable n) s = .next (hand .disable)
    ∧ exec (.clearPortFeatureSuspend n) s = .next (hand .resume)
    ∧ (∀ m : Byte, exec (.setPortFeatureTest n m) s = .next (
        if n.val = 16 ∨ m = 0 ∨ 5 < m.toNat then say .stall else hand (.test m.toNat)))
    ∧ (n.val = 16 ∨ (s.port n.val).latch ≠ .none → exec (.setPortFeaturePower n) s = .next (say .ack))
    ∧ (n.val < 16 → (s.port n.val).latch = .none →
        exec (.setPortFeaturePower n) s = .next { hand .powerOn with
          ports := updNth s.ports n.val (fun p => { p with hostOn := true, reqs := p.reqs ++ [true] })
          tcs := if typeC then updNth s.tcs (n.val - 12) (fun q => { q with want := true }) else s.tcs })
    ∧ (n.val = 16 → exec (.clearPortFeaturePower n) s = .next (say .ack))
    ∧ (n.val < 16 → exec (.clearPortFeaturePower n) s = .next { hand .powerOff with
          ports := updNth s.ports n.val (fun p => { p with hostOn := false, reqs := p.reqs ++ [false] })
          tcs := if typeC then updNth s.tcs (n.val - 12) (fun q => { q with want := false }) else s.tcs })
    ∧ (∀ c, ∃ t, exec (.clearPortChange n c) s = .next t
        ∧ (s.hub.ports.length = 17 → t.hubPort n.val = (match c with
          | .connection => { s.hubPort n.val with cConn := false }
          | .enable => { s.hubPort n.val with cEn := false }
          | .suspend => { s.hubPort n.val with cSusp := false }
          | .overCurrent => { s.hubPort n.val with cOc := false }
          | .reset => { s.hubPort n.val with cRst := false }))
        ∧ (∀ m, m ≠ n.val → t.hubPort m = s.hubPort m)
        ∧ (c = .overCurrent → n.val < 16 → s.ports.length = 16 → pAutoClr s n.val = true →
            ((s.port n.val).latch = .ocp ∨ (s.port n.val).latch = .slowOc) → (s.port n.val).classifying = false →
            (t.port n.val).latch = .none)
        ∧ (c ≠ .overCurrent ∨ pAutoClr s n.val = false → t = { say .ack with hub := t.hub })
        ∧ t = { say .ack with hub := t.hub, ports := t.ports }))
  ∧ (∀ (n : HubPortId) (s : State), portRuns s n.val = true → s.hub.ports.length = 17 → (s.hubPort n.val).devResume = false →
    (∀ sp, (s.hubPort n.val).detect = [some sp] → (s.hubPort n.val).act = [] → (s.hubPort n.val).st = .disconnected →
      ∃ t, exec (.portActionStart n) s = .next t
        ∧ t.hubPort n.val = { s.hubPort n.val with detect := [], st := .disabled, speed := sp, cConn := true }
        ∧ (∀ m, m ≠ n.val → t.hubPort m = s.hubPort m) ∧ t = { s with hub := t.hub })
    ∧ ((s.hubPort n.val).detect = [] →
    let h := s.hubPort n.val
    let h0 : HubPort := { h with act := [] }
    let becomes (t : State) (g : HubPort) : Prop := exec (.portActionStart n) s = .next t ∧ t.hubPort n.val = g
      ∧ (∀ m, m ≠ n.val → t.hubPort m = s.hubPort m)
    (h.act = [.reset] → ∃ t, becomes t
        (if h.st = .disabled ∨ h.st = .enabled ∨ h.st = .suspended ∨ h.st = .error then
          { h0 with st := .reset, deadline := s.tick.now + 96, resets := satInc h.resets 65535 } else h0)
        ∧ t = { s with hub := t.hub })
    ∧ (h.act = [.suspend] → ∃ t, becomes t (if h.st = .enabled then { h0 with st := .suspended } else h0)
        ∧ t = { s with hub := t.hub })
    ∧ (h.act = [.resume] → ∃ t, becomes t
        (if h.st = .suspended then { h0 with st := .resuming, deadline := s.tick.now + 168 } else h0)
        ∧ t = { s with hub := t.hub })
    ∧ (h.act = [.disable] → ∃ t, becomes t (if h.st = .enabled then { h0 with st := .disabled } else h0)
        ∧ t = { s with hub := t.hub })
    ∧ (h.act = [.powerOn] → ∃ t, becomes t
        (if h.st = .poweredOff ∧ (s.port n.val).hostOn = true ∧ (s.port n.val).st = .on then
          { h0 with st := .disconnected } else h0)
        ∧ t = { s with hub := t.hub })
    ∧ (h.act = [.powerOff] → (∀ x ∈ s.hub.splits, x.port ≠ n.val) → ∃ t, becomes t
        (if h.st = .poweredOff then h0 else
          { h0 with st := .poweredOff, speed := .none, deadline := 0, test := 0 })
        ∧ t = { s with hub := t.hub })
    ∧ (∀ m, h.act = [.test m] → ∃ t, becomes t (if h.st = .poweredOff then h0 else { h0 with test := m })
        ∧ t = { s with hub := t.hub })))

/-- The events of a downstream port (R132, R265, R267, R281, R285 to R287): connect, disconnect, the ends of reset and
resume drive, a device's resume, and a port-side fault, each with the change bit of the table; while the warden does not
run a connect waits for it, and a block held in reset sees none.

HEADGATE_SUSPEND, HEADGATE_RESUME, REMOTE_WAKE and PORT17_RESET (R268, R280, R282, R293, R295, R380), and the resume that the
rack function signals on port 17. -/
def Obligations.PortAndHeadgateEvents : Prop :=
  (∀ (n : PortId) (s : State), s.hub.ports.length = 17 → s.hub.susp = false → (s.hubPort n.val).detect = [] →
    (s.hubPort n.val).st = .disconnected → ∀ sp,
    (phyHeld s n.val = true → exec (.connectDetect n sp) s = .next s)
    ∧ (phyHeld s n.val = false → portRuns s n.val = false → ∃ t, exec (.connectDetect n sp) s = .next t
        ∧ t.hubPort n.val = { s.hubPort n.val with detect := [some sp] }
        ∧ (∀ m, m ≠ n.val → t.hubPort m = s.hubPort m) ∧ t = { s with hub := t.hub }))
  ∧ (∀ (n : PortId) (s : State), portRuns s n.val = true → s.hub.ports.length = 17 → s.hub.susp = false →
    (s.hubPort n.val).detect = [] →
    let h := s.hubPort n.val
    let only (t : State) (g : HubPort) : Prop := t.hubPort n.val = g ∧ (∀ m, m ≠ n.val → t.hubPort m = s.hubPort m)
    (∀ sp, h.st = .disconnected → phyHeld s n.val = false → ∃ t, exec (.connectDetect n sp) s = .next t
        ∧ only t { h with st := .disabled, speed := sp, cConn := true } ∧ t = { s with hub := t.hub })
    ∧ (h.st ≠ .poweredOff → h.st ≠ .disconnected → (∀ x ∈ s.hub.splits, x.port ≠ n.val) →
        ∃ t, exec (.disconnectDetect n) s = .next t
          ∧ only t { h with st := .disconnected, speed := .none, cConn := true, deadline := 0, devResume := false }
          ∧ t = { s with hub := t.hub })
    ∧ (∀ sp : Speed, h.st = .reset → h.deadline ≤ s.tick.now → sp ≠ .none →
        let sp' := if s.hub.speed = 2 then sp else if sp = .high then .full else sp
        let noTt := s.hub.speed = 2 ∧ sp' ≠ .high ∧ s.ttPlot n.val = none
        ∃ t, exec (.resetDriveEnd ⟨n.val, by omega⟩ sp) s = .next t
          ∧ only t { h with st := if noTt then .disabled else .enabled, speed := sp', cRst := true, deadline := 0 }
          ∧ t = { s with
              hub := t.hub
              hay := if noTt then
                { s.hay with raised := s.hay.raised ++ [⟨0x41 + n.val, 0x16, n.val + 1⟩] } else s.hay })
    ∧ (h.st = .suspended → ∃ t, exec (.deviceResume ⟨n.val, by omega⟩) s = .next t
        ∧ only t { h with devResume := true } ∧ t = { s with hub := t.hub })
    ∧ (h.st = .suspended → h.act = [] → h.devResume = true →
        ∃ t, exec (.portActionStart ⟨n.val, by omega⟩) s = .next t
          ∧ only t { h with st := .resuming, deadline := s.tick.now + 168, devResume := false } ∧ t = { s with hub := t.hub })
    ∧ (h.st = .resuming → h.deadline ≤ s.tick.now → ∃ t, exec (.resumeDriveEnd ⟨n.val, by omega⟩) s = .next t
        ∧ only t { h with st := .enabled, cSusp := true, deadline := 0 } ∧ t = { s with hub := t.hub })
    ∧ (h.st = .enabled → (∀ x ∈ s.hub.splits, x.port ≠ n.val) → ∃ t, exec (.portError n) s = .next t
        ∧ only t { h with st := .error, cEn := true, errors := satInc h.errors 65535 }
        ∧ t = { s with
            hub := t.hub, hay := { s.hay with raised := s.hay.raised ++ [⟨0x41 + n.val, 0x17, n.val + 1⟩] } }))
  ∧ (∀ s : State,
    (s.hub.pullup = true → s.hub.susp = false →
      ∃ t, exec .headgateSuspend s = .next t ∧ t = { s with hub := { s.hub with
        susp := true, susAt := s.tick.now, suspends := satInc s.hub.suspends 65535, wakeCond := t.hub.wakeCond } })
    ∧ (s.hub.susp = true → s.pwr.phase ≠ .rest →
      exec .headgateResume s = .next { s with
        hub := { s.hub with susp := false, driveK := false, wakeCond := false }, pwr := { s.pwr with noRest := false } })
    ∧ (s.hub.susp = true → s.hub.rwake = true → s.hub.wakeCond = true → s.hub.susAt + 40 ≤ s.tick.now →
      exec .remoteWake s = .next { s with hub := { s.hub with
        driveK := true, driveAt := s.tick.now, wakeCond := false } })
    ∧ ((s.hubPort 16).st = .suspended → s.hub.susp = false → s.hub.ports.length = 17 →
      (s.hub.fRwake = false → exec (.deviceResume ⟨16, by omega⟩) s = .next s)
      ∧ (s.hub.fRwake = true → ∃ t, exec (.deviceResume ⟨16, by omega⟩) s = .next t
          ∧ t.hubPort 16 = { s.hubPort 16 with devResume := true } ∧ (∀ m, m ≠ 16 → t.hubPort m = s.hubPort m)
          ∧ t = { s with hub := t.hub }))
    ∧ ((s.hubPort 16).st = .reset →
      ∃ t, exec .port17Reset s = .next t
        ∧ t.hub.fAddr = 0 ∧ t.hub.fConfigured = false ∧ t.hub.fRwake = false ∧ t.hub.fSusp = false
        ∧ t.hub.eps = [] ∧ t.hub.ring = []
        ∧ t.hub.addr = s.hub.addr ∧ t.hub.configured = s.hub.configured ∧ t.hub.splits = s.hub.splits
        ∧ t.hub.ports = s.hub.ports
        ∧ (∀ c x m, (x, m) ∈ (t.culv c).sems → m.partner = true ∨ m.ep = 0)
        ∧ t.tick = s.tick ∧ t.cfg = s.cfg ∧ t.ports = s.ports ∧ t.stby = s.stby ∧ t.pwr = s.pwr))

/-- START_SPLIT and COMPLETE_SPLIT at a configured high-speed hub (R272 to R277, R288, R639): a start-split opens an
entry of its class, Flow when periodic, or is answered NAK, or discarded when periodic; a poisoned OUT payload closes its
entry POISONED; a complete-split collects a result that is there, with the device's handshake or its data. -/
def Obligations.SplitRequests : Prop :=
  ∀ (n : PortId) (d : BitVec 7) (e : BitVec 4) (dirIn : Bool) (s : State),
    usbUp s = true → s.hub.speed = 2 → s.hub.configured = true →
    let answers (hs : Hs) : UsbAcc := { s.usb with resp := ⟨hs, [], []⟩ }
    let is (x : Split) : Bool := x.port = n.val && x.dev = d.toNat && x.ep = e.toNat && x.dirIn == dirIn
    ((∀ x ∈ s.hub.splits, x.id ≠ 0x4000) → ∀ (per : Bool) (out : OutData),
      let cls (p : Nat) : TClass := if per then .flow else ttNpClass (s.plot p).wc p n.val
      ((s.ttPlot n.val = none ∨ ∃ p, s.ttPlot n.val = some p ∧ (ttTakes s n.val = false
          ∨ (per = false ∧ ttFull s n.val = true)
          ∨ allocId s p (cLedgerCap (s.plot p).wc p) (cls p) = none)) →
        (per = false → exec (.startSplit n d e per dirIn out) s = .next { s with usb := answers .nak })
        ∧ (per = true → ∃ t, exec (.startSplit n d e per dirIn out) s = .next t
            ∧ (∃ x, t.hub.splits = s.hub.splits ++ [x] ∧ is x = true ∧ x.periodic = true ∧ x.closed = true)
            ∧ t = { s with usb := answers .none, hub := { s.hub with splits := t.hub.splits } }))
      ∧ (∀ p, s.ttPlot n.val = some p → ttTakes s n.val = true → (per = true ∨ ttFull s n.val = false) →
          ∀ id, allocId s p (cLedgerCap (s.plot p).wc p) (cls p) = some id → wfStore noEntry s.mem.ledger = true →
        ∃ t, exec (.startSplit n d e per dirIn out) s = .next t
          ∧ t.usb = answers (if per then .none else .ack)
          ∧ (∀ i, i ≠ id → t.entry i = s.entry i)
          ∧ ((out.poison = false ∨ dirIn = true) →
              t.entry id = { noEntry with
                opn := true, cls := cls p, kind := .split, owner := p, req := 0x40
                openTick := s.tick.count.setWidth 24, openAt := s.tick.now
                target := BitVec.ofNat 18 (n.val + 1 + 32 * d.toNat + 4096 * e.toNat)
                limit := if per then 5 else max 8 ((plotW (s.plot p).wc p 9).bits 15 0) }
              ∧ t.hub.splits = s.hub.splits
                  ++ [⟨id, n.val, d.toNat, e.toNat, dirIn, per, if dirIn then [] else out.bytes, 0, false, none, false⟩])
          ∧ (out.poison = true → dirIn = false → (t.entry id).opn = false ∧ (t.entry id).close = .poisoned)
          ∧ t = { s with usb := t.usb, mem := t.mem, hub := t.hub, plots := t.plots }))
    ∧ (s.hub.splits.find? (fun x => is x && (!x.closed || x.id = 0x4000)) = none →
        exec (.completeSplit n d e dirIn) s = .next { s with usb := answers .stall })
    ∧ (∀ x, s.hub.splits.find? (fun x => is x && (!x.closed || x.id = 0x4000)) = some x → x.closed = false →
        (x.result = none → exec (.completeSplit n d e dirIn) s = .next { s with usb := answers .nyet })
        ∧ (∀ r, x.result = some r → ¬((s.entry x.id).cls = .spate ∧ s.tick.now < (s.entry x.id).openAt + 2) →
            (s.entry x.id).opn = true → wfStore noEntry s.mem.ledger = true →
          ∃ t, exec (.completeSplit n d e dirIn) s = .next t
            ∧ t.usb = { s.usb with resp := (match r with
              | .answered .ack => ⟨.ack, [], []⟩
              | .answered .nak => ⟨.nak, [], []⟩
              | .answered .stall => ⟨.stall, [], []⟩
              | .answered (.data bs) => ⟨.ack, [], bs⟩
              | .poisoned bs => ⟨.badCrc, [], bs⟩
              | .noAnswer => ⟨if x.periodic then .err else .stall, [], []⟩) }
            ∧ (t.entry x.id).opn = false
            ∧ (t.entry x.id).close = (match r with
              | .answered _ => .ok
              | .poisoned _ => .poisoned
              | .noAnswer => .errFar)
            ∧ (∀ i, i ≠ x.id → t.entry i = s.entry i)
            ∧ t = { s with usb := t.usb, mem := t.mem, hub := t.hub, hay := t.hay })
        ∧ (∀ r, x.result = some r → (s.entry x.id).cls = .spate → s.tick.now < (s.entry x.id).openAt + 2 →
            exec (.completeSplit n d e dirIn) s = .next { s with usb := answers .nyet }))

/-- SPLIT_ATTEMPT_END, SPLIT_TIMEOUT and PERIODIC_SPLIT_TIMEOUT (R275, R276, R278, R399): no answer is tried again up to
three attempts of a non-periodic split; what a device answered is the result, with DONE its bytes; an entry uncollected
at its timeout closes TIMEOUT, with SPLIT_TIMEOUT raised for a non-periodic one and PER_MISS counted for a periodic one.

A cancelled split (R277, R279): its entry closes CANCELLED, or CANCELLED_LATE when an attempt is on the wire, and an
attempt on the wire stays listed, closed, until it ends.

A port that leaves the bus (R286): every open split of it closes, ERR_FAR with one SPLIT_ERR event when an attempt had
started, and CANCELLED otherwise. -/
def Obligations.SplitEnds : Prop :=
  (∀ (id : BitVec 14) (s : State),
    (∀ r, s.hub.splits.find? (fun x => x.id = id.toNat && x.onWire) = none → exec (.splitAttemptEnd id r) s = .next s)
    ∧ (∀ x r, s.hub.splits.find? (fun x => x.id = id.toNat && x.onWire) = some x → x.closed = true →
      exec (.splitAttemptEnd id r) s = .next { s with hub := { s.hub with
        splits := s.hub.splits.filter (fun y => !(y.id = id.toNat && y.onWire)) } })
    ∧ (∀ x, s.hub.splits.find? (fun x => x.id = id.toNat && x.onWire) = some x → x.closed = false →
      ∀ r, ∃ t, exec (.splitAttemptEnd id r) s = .next t
        ∧ t.hub.splits = s.hub.splits.map (fun y => if y.id = id.toNat && y.onWire then
            { y with onWire := false
                     result := if r = .noAnswer ∧ x.periodic = false ∧ x.attempts < 3 then none else some r } else y)
        ∧ (¬(r = .noAnswer ∧ x.periodic = false ∧ x.attempts < 3) → t.plots = s.plots)
        ∧ (wfStore noEntry s.mem.ledger = true →
            t.entry id.toNat = { s.entry id.toNat with done := (match r with
              | .answered (.data bs) => bs.length
              | .answered .ack => x.out.length
              | _ => 0) }
            ∧ ∀ i, i ≠ id.toNat → t.entry i = s.entry i)
        ∧ t = { s with hub := t.hub, plots := t.plots, mem := t.mem })
    ∧ (∀ (per : Bool) (x : Split),
        s.hub.splits.find? (fun x => x.id = id.toNat && !x.closed && x.periodic == per) = some x →
        (s.entry id.toNat).opn = true → timedOut s (s.entry id.toNat) = true → wfStore noEntry s.mem.ledger = true →
        s.hub.ports.length = 17 → x.port < 16 →
      ∃ t, exec (if per then .periodicSplitTimeout id else .splitTimeout id) s = .next t
        ∧ (t.entry id.toNat).opn = false ∧ (t.entry id.toNat).close = .timeout
        ∧ (∀ i, i ≠ id.toNat → t.entry i = s.entry i)
        ∧ t.hay = (if per then s.hay else
            { s.hay with raised := s.hay.raised ++ [⟨(s.entry id.toNat).owner + 1, 0x15, id.toNat⟩] })
        ∧ (t.hubPort x.port).perMiss =
            (if per then satInc (s.hubPort x.port).perMiss 65535 else (s.hubPort x.port).perMiss)
        ∧ t = { s with mem := t.mem, hub := t.hub, hay := t.hay }))
  ∧ (∀ (x : Split) (s : State), (s.entry x.id).opn = true → wfStore noEntry s.mem.ledger = true →
    let t := cancelSplit x s
    (t.entry x.id).opn = false ∧ (t.entry x.id).close = (if x.onWire then .cancelledLate else .cancelled)
    ∧ (∀ i, i ≠ x.id → t.entry i = s.entry i)
    ∧ (∀ y ∈ t.hub.splits, y.id = x.id → y.onWire = true ∧ y.closed = true)
    ∧ (∀ y, y.id ≠ x.id → (y ∈ t.hub.splits ↔ y ∈ s.hub.splits))
    ∧ t = { s with mem := t.mem, hub := t.hub })
  ∧ (∀ (x : Split) (s : State), (s.entry x.id).opn = true → wfStore noEntry s.mem.ledger = true →
    let t := dropSplit x s
    (t.entry x.id).opn = false ∧ (t.entry x.id).close = (if x.attempts = 0 then .cancelled else .errFar)
    ∧ (∀ i, i ≠ x.id → t.entry i = s.entry i)
    ∧ t.hay = (if x.attempts = 0 then s.hay else
        { s.hay with raised := s.hay.raised ++ [⟨(s.entry x.id).owner + 1, 0x14, x.id⟩] })
    ∧ t = { s with mem := t.mem, hub := t.hub, hay := t.hay })

/-! ### Sluices and cadence streams -/

/-- Claims on a sluice (R308 to R311, R319): refused with SLUICE_LONG, granted at once, queued behind an open packet, or
granted later, a Spate claim before the others; a claim by a peer code that is not listed is none, and one on a sluice B
has the class of the item under way.

Writing, rewinding and staleness (R312, R313, R315, R316, R330 to R332) of a sluice without packing, no field
injection armed: a word joins the open packet, the last commits it, one beyond the claim rewinds it with SLUICE_LONG, a
stale packet is committed truncated with SLUICE_STALE. -/
def Obligations.SluiceWriting : Prop :=
  (∀ (i : SluiceId) (s : State), wfStore Sluice.empty s.sluices = true →
    let q := s.sluice i.val
    let room (cls : TClass) : Nat := if cls = .spate then 0 else sSpateSt s i.val
    let only (t : State) (q' : Sluice) : Prop :=
      t.sluice i.val = q' ∧ (∀ j, j ≠ i.val → t.sluice j = s.sluice j) ∧ t = { s with sluices := t.sluices }
    (∀ (peer : BitVec 7) (given : TClass) (len : BitVec 8), clocked s = true → len ≠ 0 →
      let listed := peer.toNat < 63 ∨ 0x40 ≤ peer.toNat ∧ peer.toNat ≤ 0x59
      let cls : TClass := match (s.plot (i.val / 2)).running with
        | none => given
        | some r => if i.val % 2 = 1 ∧ i.val < 126 then r.cls else given
      let c : SClaim := ⟨cls, peer.toNat, len.toNat⟩
      (¬listed → exec (.sluiceClaim i peer given len) s = .next s)
      ∧ (listed → 32 < len.toNat + room cls →
        exec (.sluiceClaim i peer given len) s = .next (if 126 ≤ i.val then s else
          { s with hay := { s.hay with raised := s.hay.raised ++ [⟨i.val / 2 + 1, 0x10, i.val⟩] } }))
      ∧ (listed → len.toNat + room cls ≤ 32 → q.opn = none → q.claims = [] → q.held = false →
          len.toNat + room cls + sPktWords q ≤ 32 →
        ∃ t, exec (.sluiceClaim i peer given len) s = .next t ∧ only t { q with opn := some ⟨c, [], 0, []⟩ })
      ∧ (listed → len.toNat + room cls ≤ 32 →
          q.opn.isSome = true ∨ q.held = true ∨ 32 < len.toNat + room cls + sPktWords q →
        ∃ t, exec (.sluiceClaim i peer given len) s = .next t ∧ only t { q with claims := q.claims ++ [c] }))
    ∧ (∀ c, s.adc.sets = [] → q.opn = none → q.held = false →
        (q.claims.find? (fun c => c.cls = .spate) = some c ∨
          q.claims.find? (fun c => c.cls = .spate) = none ∧ q.claims.head? = some c) →
        (c.len + room c.cls + sPktWords q ≤ 32 →
          ∃ t, exec (.claimGrant i) s = .next t
            ∧ only t { q with opn := some ⟨c, [], 0, []⟩, claims := q.claims.erase c })
        ∧ (32 < c.len + room c.cls + sPktWords q → exec (.claimGrant i) s = .next s)))
  ∧ (∀ (i : SluiceId) (s : State), wfStore Sluice.empty s.sluices = true →
    let q := s.sluice i.val
    let only (t : State) (q' : Sluice) : Prop :=
      t.sluice i.val = q' ∧ (∀ j, j ≠ i.val → t.sluice j = s.sluice j)
    let event (k : Nat) : Hay := if 126 ≤ i.val then s.hay else
      { s.hay with raised := s.hay.raised ++ [⟨i.val / 2 + 1, k, i.val⟩] }
    (∀ (d : W) (vb : BitVec 2) (p l : Bool) (o : SOpen), q.opn = some o → s.hay.injArm = false →
        narrowPeer o.claim.peer = false → (i.val % 2 = 1 → itemOf s i.val = false) →
      let w : SWord := ⟨d, 0, 3, p, false, false, false, o.claim.peer, false⟩
      let o' : SOpen := { o with words := o.words ++ [w], stale := 0 }
      (o.words.length < o.claim.len → l = false →
        ∃ t, exec (.sluiceWrite i d vb p l) s = .next t ∧ only t { q with opn := some o' }
          ∧ t = { s with sluices := t.sluices })
      ∧ (o.words.length < o.claim.len → l = true → o.part = [] →
        ∃ t, exec (.sluiceWrite i d vb p l) s = .next t
          ∧ only t { q with opn := none, pkts := q.pkts ++ [⟨o.claim.cls, markWords o'.words vb.toNat false⟩] }
          ∧ t = { s with sluices := t.sluices })
      ∧ (o.claim.len ≤ o.words.length →
        ∃ t, exec (.sluiceWrite i d vb p l) s = .next t
          ∧ only t { q with opn := none, stagedWr := [], rewinds := q.rewinds + 1 }
          ∧ t = { s with sluices := t.sluices, hay := event 0x10 }))
    ∧ (∀ (d : W) (vb : BitVec 2) (p l : Bool), i.val % 2 = 1 → itemOf s i.val = true → q.opn.isSome = true →
      ∃ t, exec (.sluiceWrite i d vb p l) s = .next t
        ∧ only t { q with stagedWr := q.stagedWr ++ [⟨d, vb.toNat, p, l⟩] } ∧ t = { s with sluices := t.sluices })
    ∧ (∃ t, exec (.sluiceRewind i) s = .next t
        ∧ only t (if q.opn.isSome then { q with opn := none, stagedWr := [], rewinds := q.rewinds + 1 } else q)
        ∧ t = { s with sluices := t.sluices })
    ∧ (∀ o, q.opn = some o → o.part = [] → sStale s i.val ≤ o.stale →
      ∃ t, exec (.sluiceStale i) s = .next t
        ∧ only t { q with
            opn := none, stales := q.stales + 1
            pkts := if o.words = [] then q.pkts else q.pkts ++ [⟨o.claim.cls,
              markWords o.words (if narrowPeer o.claim.peer && i.val % 2 = 0 then 1 else 3) true⟩] }
        ∧ t = { s with sluices := t.sluices, hay := event 0x11 }))

/-- Taking (R303, R316 to R319, R321, R326, R334, R449): the head word leaves at once, or with the item of the plot that
takes it; one that a plot's sluice A is to take stays where it is; an empty sluice counts an underrun; PEEK changes
nothing; the rest of a packet partly taken is dropped; the bank moves a packet to the sluice A it names with PEER
rewritten, and a packet of a CAD plot in a FUNC plot's sluice is Flow work there. -/
def Obligations.SluiceTakes : Prop :=
  ∀ (i : SluiceId) (s : State), wfStore Sluice.empty s.sluices = true →
    let q := s.sluice i.val
    let staged := i.val % 2 = 0 ∧ itemOf s i.val = true
    let only (t : State) (q' : Sluice) : Prop :=
      t.sluice i.val = q' ∧ (∀ j, j ≠ i.val → t.sluice j = s.sluice j) ∧ t = { s with sluices := t.sluices }
    (∀ w, (sWords q)[q.staged]? = some w → i.val % 2 = 1 → w.peer < 63 → exec (.sluiceTake i) s = .next s)
    ∧ (∀ w, (sWords q)[q.staged]? = some w → (i.val % 2 = 0 ∨ 63 ≤ w.peer) → w.parBad = false →
      (staged → ∃ t, exec (.sluiceTake i) s = .next t
        ∧ only t { q with staged := q.staged + 1, lastWord := some w, out := some w })
      ∧ (¬staged → q.staged = 0 → ∃ t, exec (.sluiceTake i) s = .next t ∧ only t (t.sluice i.val)
          ∧ sWords (t.sluice i.val) = (sWords q).drop 1 ∧ (t.sluice i.val).lastWord = some w
          ∧ (t.sluice i.val).out = some w ∧ (t.sluice i.val).opn = q.opn))
    ∧ (∀ w, (sWords q)[q.staged]? = some w → (i.val % 2 = 0 ∨ 63 ≤ w.peer) → w.parBad = true →
      ∃ t, exec (.sluiceTake i) s = .next t
        ∧ (t.sluice i.val).out = some { w with poison := true, parBad := false }
        ∧ ∃ k < 32, t.hay = { s.hay with raised := s.hay.raised ++ [⟨0x64, 0x12, 32 * i.val + k⟩] })
    ∧ ((sWords q)[q.staged]? = none →
      ∃ t, exec (.sluiceTake i) s = .next t
        ∧ only t { q with out := some (emptyWord s i.val), underruns := q.underruns + 1 })
    ∧ (∃ t, exec (.sluicePeek i) s = .next t ∧ only t { q with out := (sWords q)[q.staged]? })
    ∧ (q.staged = 0 → q.partly = false → ∃ t, exec (.dropRemainder i) s = .next t ∧ only t q)
    ∧ (∀ k l, q.staged = 0 → q.partly = true → q.pkts = k :: l → k.words ≠ [] → (∀ x ∈ l, x.words ≠ []) → ¬staged →
      ∃ t, exec (.dropRemainder i) s = .next t ∧ only t { q with pkts := l, partly := false, drops := q.drops + 1 })
    ∧ (∀ (p r : PlotId) (k : SPkt) (l : List SPkt), (s.sluice (2 * p.val + 1)).pkts = k :: l →
        (s.sluice (2 * p.val + 1)).partly = false → k.words ≠ [] → (∀ x ∈ l, x.words ≠ []) →
        (k.words.headD noWord).peer = r.val → (∀ w ∈ k.words, w.parBad = false) →
        (s.sluice (2 * r.val)).opn = none → (s.sluice (2 * r.val)).claims = [] → (s.sluice (2 * r.val)).held = false →
        k.words.length + (if k.cls = .spate then 0 else sSpateSt s (2 * r.val)) + sPktWords (s.sluice (2 * r.val)) ≤ 32 →
      ∃ t, exec (.sluiceTransfer p) s = .next t
        ∧ (t.sluice (2 * r.val)).pkts = (s.sluice (2 * r.val)).pkts
            ++ [⟨k.cls, k.words.map (fun w => { w with peer := p.val })⟩]
        ∧ (t.sluice (2 * p.val + 1)).pkts = l
        ∧ (∀ j, j ≠ 2 * r.val → j ≠ 2 * p.val + 1 → t.sluice j = s.sluice j)
        ∧ ((s.role r.val ≠ rFUNC ∨ s.role p.val ≠ rCAD) → t.plots = s.plots)
        ∧ (s.role r.val = rFUNC → s.role p.val = rCAD → s.plots.length = 63 → ⟨1, streamRef⟩ ∈ (t.plot r.val).ready)
        ∧ t = { s with sluices := t.sluices, plots := t.plots })

/-- RACK_FUNCTION_IN (R284, R288, R289, R301): endpoints 1, 2 and 4 answer with the oldest packet of their buffer, which
leaves it when the host acknowledges; a packet of a carved endpoint with a poisoned word goes once with its CRC16
inverted and halts the endpoint; endpoint 3 answers with the event ring, endpoints 8 to 15 with their streams, and no
other endpoint answers.

SET_ADJ, GET_CADENCE, STREAM_IN and CADENCE_PACKET_BUILD (R284, R448 to R453, R457): ADJ waits for the next boundary; a
stream of which nothing is to be offered sends a header-only packet; a packet carries the oldest ticks that are with the
FUNC plot; the CAD plot builds one packet of its sluice B, in which READs of ended ticks that have not closed are LATE. How many
ticks one packet takes, and that it waits for room, are the model's choice (log 83). -/
def Obligations.CadenceAndInPipes : Prop :=
  (∀ (s : State), funcUp s = true →
    let say (hs : Hs) (ws : List W) : State := { s with usb := { s.usb with resp := ⟨hs, ws, []⟩ } }
    (∀ e : Fin 16, (e.val = 1 ∨ e.val = 2 ∨ e.val = 4) →
      let q := s.ep (e.val + 16)
      (q.halted = true → ∀ how, exec (.rackFunctionIn e how) s = .next (say .stall []))
      ∧ (q.halted = false → (epServes s e.val = false ∨ q.pkts = []) →
          ∀ how, exec (.rackFunctionIn e how) s = .next (say .nak []))
      ∧ (∀ k l po, q.halted = false → epServes s e.val = true → q.pkts = k :: l → wfStore FEp.reset s.hub.eps = true →
          ((po = false ∨ q.k = 0) →
            exec (.rackFunctionIn e ⟨false, po⟩) s = .next (say .ack k)
            ∧ ∃ t, exec (.rackFunctionIn e ⟨true, po⟩) s = .next t ∧ t.ep (e.val + 16) = { q with pkts := l }
              ∧ (∀ i, i ≠ e.val + 16 → t.ep i = s.ep i) ∧ (q.wait = [] → t.plots = s.plots)
              ∧ t = { say .ack k with hub := { s.hub with eps := t.hub.eps }, plots := t.plots })
          ∧ (po = true → q.k ≠ 0 → k ≠ [] → ∀ a, ∃ t, exec (.rackFunctionIn e ⟨a, po⟩) s = .next t
              ∧ t.ep (e.val + 16) = { q with pkts := l, halted := true }
              ∧ (∀ i, i ≠ e.val + 16 → t.ep i = s.ep i) ∧ (q.wait = [] → t.plots = s.plots)
              ∧ t = { say .badCrc k with hub := { s.hub with eps := t.hub.eps }, plots := t.plots })))
    ∧ (∀ (e : Fin 16) (how : InRead), (e.val = 0 ∨ 5 ≤ e.val ∧ e.val ≤ 7) →
        exec (.rackFunctionIn e how) s = .next (say .none []))
    ∧ (∀ a po, (po = false ∨ (s.ep 19).k = 0) → exec (.rackFunctionIn 3 ⟨a, po⟩) s = exec (.eventRingIn a) s)
    ∧ (∀ (k : StreamId) (a po : Bool), (po = false ∨ (s.ep (24 + k.val)).k = 0) →
        exec (.rackFunctionIn ⟨8 + k.val, by omega⟩ ⟨a, po⟩) s = exec (.streamIn k) s))
  ∧ (∀ (s : State), s.cads.length = 8 →
    let say (hs : Hs) (ws : List W) : UsbAcc := { s.usb with resp := ⟨hs, ws, []⟩ }
    (funcUp s = true → optRuns s (s.funcPlot 0) = true → ∀ (v : BitVec 16) (adj : W),
      (7 < v.toNat ∨ s.cadPlot v.toNat = none →
        exec (.setAdj v adj) s = .next { s with usb := say .stall [] }
        ∧ exec (.getCadence v) s = .next { s with usb := say .stall [] })
      ∧ (v.toNat ≤ 7 → s.cadPlot v.toNat ≠ none →
        exec (.setAdj v adj) s = .next { s with
          usb := say .ack [], cads := updNth s.cads v.toNat (fun c => { c with adjNew := some adj }) }
        ∧ exec (.getCadence v) s = .next { s with usb := (say .ack
          [BitVec.ofNat 32 (s.cad v.toNat).rate, adjNow s v.toNat, BitVec.ofNat 32 (nextIndex (s.cad v.toNat))]) }))
    ∧ (∀ k : StreamId, funcUp s = true →
        (s.hub.fConfigured = false → exec (.streamIn k) s = .next { s with usb := say .none [] })
        ∧ (s.hub.fConfigured = true → (s.ep (24 + k.val)).halted = true →
            exec (.streamIn k) s = .next { s with usb := say .stall [] })
        ∧ (s.hub.fConfigured = true → (s.ep (24 + k.val)).halted = false → s.cadPlot k.val = none →
            exec (.streamIn k) s = .next { s with usb := say .ack [] })
        ∧ (s.hub.fConfigured = true → (s.ep (24 + k.val)).halted = false → s.cadPlot k.val ≠ none →
            epServes s (8 + k.val) = false → exec (.streamIn k) s = .next { s with usb := say .nak [] }))
    ∧ (∀ k : StreamId, funcUp s = true → s.hub.fConfigured = true → (s.ep (24 + k.val)).halted = false →
        s.cadPlot k.val ≠ none → epServes s (8 + k.val) = true →
        let c := s.cad k.val
        (offered s c = [] → ∃ t, exec (.streamIn k) s = .next t ∧ t = { s with
            usb := say .ack (mkW [(0, 3, k.val), (4, 1, b2n c.gap)] ::
              [BitVec.ofNat 32 c.rate, BitVec.ofNat 32 (nextIndex c), t.usb.resp.words.getD 3 0, 0, 0])
            cads := updNth s.cads k.val (fun c => { c with gap := false }), free := s.free + 1 })
        ∧ (∀ x l, offered s c = x :: l → ∃ t, exec (.streamIn k) s = .next t ∧ t.usb = say .ack t.usb.resp.words
            ∧ let ws := t.usb.resp.words
            ws.take 6 = (streamPacket k.val c.gap (x :: l) (((x :: l).getLast?).getD x).rate.toNat x.first.toNat x.tick).take 6
            ∧ ws.getD 3 0 = x.tick ∧ ws.getD 2 0 = x.first
            ∧ (t.cad k.val).ticks = c.ticks.drop (l.length + 1) ∧ (t.cad k.val).gap = false
            ∧ t = { s with usb := t.usb, cads := t.cads }))
    ∧ (∀ k : StreamId, s.cadPlot k.val = none → exec (.cadencePacketBuild k) s = .next s)
    ∧ (∀ (k : StreamId) (p : Nat), s.cadPlot k.val = some p → plotRuns s p = true → (plotW (s.plot p).wc p 9).bit 3 = false →
        let c := s.cad k.val
        let b := s.sluice (2 * p + 1)
        let l := toBuild s c
        let settled (x : STick) : STick := { x with samps := x.samps.map (fun y => if y.st = .waiting then ⟨0, .late⟩ else y) }
        ((l = [] ∨ s.funcPlot (8 + k.val) = none ∨ b.claims ≠ []) → exec (.cadencePacketBuild k) s = .next s)
        ∧ (∀ x xs q, l = x :: xs → s.funcPlot (8 + k.val) = some q → b.claims = [] →
            wfStore Sluice.empty s.sluices = true → s.hay.injArm = false →
            let ws := ticksPacket k.val false (settled x) (xs.map settled)
            claimFits s (2 * p + 1) ⟨.flow, q, ws.length⟩ = true →
            ∃ t, exec (.cadencePacketBuild k) s = .next t
              ∧ (∃ pk : SPkt, (t.sluice (2 * p + 1)).pkts = b.pkts ++ [pk] ∧ pk.cls = .flow
                  ∧ pk.words.map SWord.data = ws ∧ ∀ w ∈ pk.words, w.peer = q ∧ w.poison = false)
              ∧ (∀ j, j ≠ 2 * p + 1 → t.sluice j = s.sluice j)
              ∧ (t.cad k.val).ticks = c.ticks.map (fun y =>
                  if l.any (fun z => z.at_ = y.at_) then { settled y with built := true } else y)
              ∧ (∀ j, j ≠ k.val → t.cad j = s.cad j) ∧ t = { s with cads := t.cads, sluices := t.sluices })))

/-- A stream at the boundary that opens a tick (R442 to R444, R451 to R453): the position moves on by the rate of the tick
before, the samples of the tick are those from its position to the next, and ADJ and the rate are clamped.

TIMED_READ_DUE (R379, R443, R445, R457): a staged READ whose entry is open enters the C1 queue with its due cycle; one
rejected at staging or closed before is FAILED, and so, its entry closing CANCELLED (log 78), is one of Spate that another
requester's semaphore bars now; a sample not staged stays MISSED. -/
def Obligations.StreamsAndTimedReads : Prop :=
  (∀ (k : StreamId) (s : State) (p : Nat), s.cadPlot k.val = some p → s.hub.fConfigured = true → s.cads.length = 8 →
    let c := s.cad k.val
    let c' := (cadBoundary k.val s).cad k.val
    let adj := c.adjNew.getD c.adj
    let lim : Int := (plotW (s.plot p).wc p 11).bits 15 0
    let top : Int := if (plotW (s.plot p).wc p 9).bit 3 then 65536 else if s.hub.speed = 1 then 7 * 65536 else 32 * 65536
    c'.pos = (if c.running then c.pos + c.rate else 0) ∧ c'.running = true ∧ c'.adj = adj ∧ c'.adjNew = none
    ∧ (c'.rate : Int) = max 0 (min top (((plotW (s.plot p).wc p 10).toNat : Int) + max (-lim) (min lim adj.toInt)))
    ∧ (∀ j, j ≠ k.val → (cadBoundary k.val s).cad j = s.cad j)
    ∧ cadBoundary k.val s = { s with cads := (cadBoundary k.val s).cads })
  ∧ (∀ (k : StreamId) (s : State), s.cads.length = 8 → ∀ p, s.cadPlot k.val = some p →
    ∀ t, tickNow s (s.cad k.val) = some t → ∀ j < t.samps.length, (plotW (s.plot p).wc p 9).bit 3 = false →
    let c := s.cad k.val
    let idx := (c.pos + 65535) / 65536 + j
    let cmd := Instr.timedReadDue k (t.first + BitVec.ofNat 32 j)
    t.samps.length ≤ 64 →
    (c.stagedIds.find? (fun x => x.1 = idx) = none →
      exec cmd s = .next { s with cads := updNth s.cads k.val (fun c => { c with due := j + 1 }) })
    ∧ (∀ id, c.stagedIds.find? (fun x => x.1 = idx) = some (idx, some id) → (s.entry id).opn = true →
        cadBarred s p = true → wfStore noEntry s.mem.ledger = true →
      ∃ r, exec cmd s = .next r ∧ (r.entry id).opn = false ∧ (r.entry id).close = .cancelled
        ∧ (∀ i, i ≠ id → r.entry i = s.entry i)
        ∧ (r.cad k.val).failed = c.failed + 1 ∧ (r.cad k.val).due = j + 1
        ∧ r = { s with cads := r.cads, culvs := r.culvs, mem := r.mem })
    ∧ (∀ id, c.stagedIds.find? (fun x => x.1 = idx) = some (idx, some id) → (s.entry id).opn = true →
        cadBarred s p = false →
      ∃ r, exec cmd s = .next r
        ∧ (∃ o, r.culvs.c1.ops = s.culvs.c1.ops ++ [o]
          ∧ o.id = id ∧ o.kind = .timed ∧ o.culv = 0 ∧ o.addr = (plotW (s.plot p).wc p 9).bits 22 8 ∧ o.count = 1
          ∧ o.stat = .waiting ∧ o.dueTick = s.tick.now
          ∧ o.dueCyc = (if c.rate = 0 then 0 else ((65536 * idx - c.pos) * 30000 + c.rate - 1) / c.rate))
        ∧ (r.cad k.val).failed = c.failed ∧ (r.cad k.val).due = j + 1
        ∧ r = { s with cads := r.cads, culvs := r.culvs })
    ∧ (∀ e, c.stagedIds.find? (fun x => x.1 = idx) = some (idx, e) → (∀ id, e = some id → (s.entry id).opn = false) →
      ∃ r, exec cmd s = .next r ∧ (r.cad k.val).failed = c.failed + 1 ∧ (r.cad k.val).due = j + 1
        ∧ r = { s with cads := r.cads }))

/-! ### The culverts and the tandem pair -/

/-- Requests on the rack function's endpoints 1 and 2 (R114, R347 to R353, R372 to R378, R383, R391, R392): an operation
that nothing turns away opens its ledger entry, joins the culvert's queue and makes an item ready in the FUNC plot, or is
served from a prefetch buffer; its data keep the packet's poison mark (R345); semaphores and CANCEL answer without an
entry; CANCEL closes the open operation of its TAG; a reserved header value answers BAD_FIELD.

A packet on endpoint 1 or 2 that the rack function does not take is answered NAK and leaves nothing: outside RUN, in
the device safe state, with its endpoint not served, or while the headgate's claim on the plot's sluice A waits (R57,
R114, R284, R289, R328, R568). -/
def Obligations.CulvertRequests : Prop :=
  (∀ (sp : Bool) (s : State) (p : Nat),
    let e := if sp then 2 else 1
    let cls : TClass := if sp then .spate else if (plotW (s.plot p).wc p 10).bit 1 then .seep else .flow
    let acked : UsbAcc := { s.usb with resp := ⟨.ack, [], []⟩ }
    let frame (t : State) (plots : List Plot) : Prop := t = { s with
      usb := acked, mem := t.mem, culvs := t.culvs, plots := plots, hub := { s.hub with eps := t.hub.eps } }
    let results (t : State) (wss : List (List W)) : Prop := (∀ j, j ≠ e + 16 → t.ep j = s.ep j)
      ∧ t.ep (e + 16) = { s.ep (e + 16) with wait := (s.ep (e + 16)).wait ++ wss } ∧ frame t (readyEp e s).plots
    let result (t : State) (ws : List W) : Prop := results t [ws] ∧ t.mem = s.mem
    s.funcPlot e = some p → epServes s e = true → accepting s = true → claimWaits s (2 * p) 0x40 = false →
    (s.ep e).halted = false → (s.ep e).pkts = [] → (s.ep e).drop = false →
    wfStore FEp.reset s.hub.eps = true → s.tandPlot = none →
    (∀ (c : Nat), c < 3 → kEnable s c = true → (s.culvPlot c).isSome = true → kStrict s c = false →
        (s.culv c).sems = [] → ∀ id, allocId s p (cLedgerCap (s.plot p).wc p) cls = some id → wfStore noEntry s.mem.ledger = true →
      let queued (t : State) (x : COp → Prop) : Prop :=
        (∃ o, (t.culv c).ops = (s.culv c).ops ++ [o]
          ∧ o.id = id ∧ o.culv = c ∧ o.cls = cls ∧ o.chain = 0 ∧ o.req = p ∧ o.ep = e ∧ o.stat = .waiting ∧ o.done = 0
          ∧ o.fed = false ∧ (t.entry id).tag = o.tag ∧ x o)
        ∧ (∀ k < 3, k ≠ c → t.culv k = s.culv k) ∧ t.culvs.bus = s.culvs.bus ∧ (∀ j, t.ep j = s.ep j)
        ∧ (t.entry id).opn = true ∧ (t.entry id).cls = cls ∧ (t.entry id).kind = .culvert ∧ (t.entry id).owner = p
        ∧ (t.entry id).culv = c + 1 ∧ (t.entry id).openAt = s.tick.now
        ∧ (t.entry id).limit = (if kOpTimeout s c = 0 then 65535 else kOpTimeout s c)
        ∧ (∀ i, i ≠ id → t.entry i = s.entry i) ∧ frame t (readyItem p (classCode cls) id s).plots
      (∀ (tag : Byte) (nopf : Bool) (unit : BitVec 2) (a : BitVec 15) (n : BitVec 7), c = 0 → n ≠ 0 →
          n.toNat * unitWords unit.toNat ≤ 64 → a.toNat + n.toNat * unitWords unit.toNat ≤ 0x8000 →
          (nopf = true ∨ unit ≠ 0 ∨ bufHit s a.toNat n.toNat = none) →
        ∃ t, exec (.c1Read sp tag nopf false unit a n) s = .next t ∧ queued t (fun o =>
          o.kind = .read ∧ o.tag = tag.toNat ∧ o.unit = unit.toNat ∧ o.addr = a.toNat ∧ o.count = n.toNat))
      ∧ (∀ (tag : Byte) (a : BitVec 15) (n : BitVec 7) (ws : List (BitVec 12)), c = 0 → n ≠ 0 → n.toNat ≤ 64 →
          a.toNat + n.toNat ≤ 0x8000 → bufHit s a.toNat n.toNat = some ws →
        ∃ t, exec (.c1Read sp tag false false 0 a n) s = .next t ∧ (t.entry id).opn = false ∧ (t.entry id).close = .ok
          ∧ (t.entry id).done = n.toNat ∧ (∀ i, i ≠ id → t.entry i = s.entry i)
          ∧ (t.culv 0).ops = (s.culv 0).ops ∧ (t.culv 0).okCnt = (s.culv 0).okCnt + 1
          ∧ (t.culv 0).pfHits = (s.culv 0).pfHits + 1
          ∧ results t (chopWords (maxPacketWords s e) (n.toNat + 3)
              (resultHead tag.toNat 1 0 0 0 0 true (some id) n.toNat
                ++ (List.range n.toNat).map (joinUnit (kHighFirst s) 0 ws))))
      ∧ (∀ (tag : Byte) (unit : BitVec 2) (a : BitVec 15) (d : List W), c = 0 → d ≠ [] →
          d.length * unitWords unit.toNat ≤ 64 → a.toNat + d.length * unitWords unit.toNat ≤ 0x8000 →
        let written (poison : Bool) (o : COp) : Prop :=
          o.kind = .write ∧ o.tag = tag.toNat ∧ o.unit = unit.toNat ∧ o.addr = a.toNat ∧ o.count = d.length
          ∧ o.data = splitUnits (kHighFirst s) unit.toNat d ∧ o.poison = poison
        (∃ t, exec (.c1Write sp tag false unit a d) s = .next t ∧ queued t (written false))
        ∧ (∀ poison : Bool, ∃ t, exec (.culvertRequest sp poison (reqWord0 tag.toNat 1 1 false false false unit.toNat
            :: mkW [(0, 15, a.toNat), (16, 7, d.length)] :: d)) s = .next t ∧ queued t (written poison)))
      ∧ (∀ (tag : Byte) (a : BitVec 15) (am om : BitVec 12), c = 0 → 2 ≤ kLockMax s →
        ∃ t, exec (.rmw sp tag false a am om) s = .next t
          ∧ (∃ o, (t.culv 0).ops = (s.culv 0).ops ++ [o] ∧ o.id = id ∧ o.kind = .rmw ∧ o.tag = tag.toNat ∧ o.addr = a.toNat
            ∧ o.data = [mkW [(0, 12, am.toNat), (16, 12, om.toNat)]] ∧ o.chain = s.culvs.chains + 1 ∧ o.stat = .waiting)
          ∧ (t.entry id).opn = true ∧ (t.entry id).cls = cls ∧ (∀ i, i ≠ id → t.entry i = s.entry i)
          ∧ (∀ j, t.ep j = s.ep j) ∧ frame t (readyItem p (classCode cls) id s).plots)
      ∧ (∀ (cv : CulvId) (tag : Byte) (idem : Bool) (st : Byte) (tx : List Byte) (rx : Byte), cv.val = c → c ≠ 0 →
          tx.length < 256 →
        ∃ t, exec (.xfer sp cv tag idem false st tx rx) s = .next t ∧ queued t (fun o =>
          o.kind = .xfer ∧ o.tag = tag.toNat ∧ o.addr = st.toNat ∧ o.tx = tx ∧ o.rxLen = rx.toNat ∧ o.idem = idem)))
    ∧ (∀ (c : CulvId) (tag : Byte) (x : BitVec 3), kEnable s c.val = true → (s.culvPlot c.val).isSome = true →
      (∀ (base : BitVec 15) (len : BitVec 13), (s.culv c.val).sems = [] →
        ∃ t, exec (.semAcq sp c tag base len x) s = .next t
          ∧ (t.culv c.val).sems = [(x.toNat, ⟨p, e, s.tick.now, base.toNat, len.toNat, false⟩)]
          ∧ (∀ k < 3, k ≠ c.val → t.culv k = s.culv k)
          ∧ result t (resultHead tag.toNat (c.val + 1) 4 0 0 0 false none 0))
      ∧ (∀ (base : BitVec 15) (len : BitVec 13), ((s.culv c.val).sems.any (fun m => m.1 = x.toNat)) = true →
        ∃ t, exec (.semAcq sp c tag base len x) s = .next t ∧ t.culvs = s.culvs
          ∧ result t (resultHead tag.toNat (c.val + 1) 4 7 5 0 false none 0))
      ∧ (∀ m : Sem, (x.toNat, m) ∈ (s.culv c.val).sems → m.holder = p → m.ep = e →
        ∃ t, exec (.semRel sp c tag x) s = .next t
          ∧ (t.culv c.val).sems = (s.culv c.val).sems.filter (fun k => k.1 ≠ x.toNat)
          ∧ (∀ k < 3, k ≠ c.val → t.culv k = s.culv k)
          ∧ result t (resultHead tag.toNat (c.val + 1) 5 0 0 0 false none 0))
      ∧ ((∀ k ∈ (s.culv c.val).sems, k.1 ≠ x.toNat) →
        ∃ t, exec (.semRel sp c tag x) s = .next t ∧ t.culvs = s.culvs
          ∧ result t (resultHead tag.toNat (c.val + 1) 5 7 6 0 false none 0)))
    ∧ (∀ (g : CancelName) (tag : Byte), s.tand.fwd = [] → s.tand.toSend = [] →
      (g.culv = 0 → ∃ t, exec (.cancel sp tag g) s = .next t ∧ t.culvs = s.culvs
        ∧ result t (resultHead tag.toNat 0 6 7 1 0 false none 0))
      ∧ (g.culv ≠ 0 → kEnable s (g.culv.toNat - 1) = true → (s.culvPlot (g.culv.toNat - 1)).isSome = true →
        ((∀ c < 3, ∀ o ∈ (s.culv c).ops, o.tag ≠ g.tag.toNat) →
          ∃ t, exec (.cancel sp tag g) s = .next t ∧ t.culvs = s.culvs
            ∧ result t (resultHead tag.toNat g.culv.toNat 6 7 7 0 false none 0))
        ∧ (∀ (c : CulvId) (o : COp), (s.culv c.val).ops = [o] → (∀ k < 3, k ≠ c.val → (s.culv k).ops = []) →
            o.tag = g.tag.toNat → o.req = p → o.ep = e → o.kind = .read ∨ o.kind = .write → o.culv = c.val → o.chain = 0 →
            o.stat = .waiting → o.closed = false → o.mute = false → o.done = 0 → o.got = [] →
            s.culvs.bus.owed = false → (s.culv c.val).chainNow = 0 →
            (s.entry o.id).opn = true → wfStore noEntry s.mem.ledger = true →
          ∃ t, exec (.cancel sp tag g) s = .next t ∧ (t.culv c.val).ops = []
            ∧ (t.culv c.val).failCnt = (s.culv c.val).failCnt + 1
            ∧ (t.entry o.id).opn = false ∧ (t.entry o.id).close = .cancelled ∧ (∀ i, i ≠ o.id → t.entry i = s.entry i)
            ∧ results t [resultHead o.tag (c.val + 1) (opCode o.kind) Close.cancelled.code 0 o.attempts false (some o.id) 0,
                resultHead tag.toNat g.culv.toNat 6 0 0 0 false none 0])))
    ∧ (∀ (poison : Bool) (w : W) (l : List W), w.bits 31 18 ≠ 0 ∨ w.bits 9 8 = 0 ∨ w.bits 12 10 = 7 →
      ∃ t, exec (.culvertRequest sp poison (w :: l)) s = .next t ∧ t.culvs = s.culvs
        ∧ result t (resultHead (w.bits 7 0) (w.bits 9 8) (w.bits 12 10) 7 1 0 false none 0)))
  ∧ (∀ (sp poison : Bool) (ws : List W) (s : State),
    let e := if sp then 2 else 1
    s.funcPlot e = none ∨ epServes s e = false ∨ accepting s = false ∨ (s.ep e).halted = true
      ∨ (∃ p, s.funcPlot e = some p ∧ claimWaits s (2 * p) 0x40 = true) →
    exec (.culvertRequest sp poison ws) s = .next { s with usb := { s.usb with resp := ⟨.nak, [], []⟩ } })

/-- Arbitration, quiet ranges and attention inputs of C1 (R114, R132, R361 to R367, R382, R384, R386, R398): a block held
in reset takes no grant, and outside RUN no prefetch opens its entry.

CULVERT_ISSUE (R2, R328, R354, R367, R369, R377): the operation whose turn it is takes the wire and counts an attempt; its
entry is emitted; nothing issues under a foreign lock, behind an operation under way, or while the controller's claim on
sluice A waits.

C1_BURST_END and C1_ACK_TIMEOUT of an operation outside a chain (R351, R357, R358, R360, R390): complete, it closes OK
and its result carries what was read; a read phase of wrong parity closes it ERR_FAR; an acknowledge timeout closes it
TIMEOUT. The second burst of an RMW drives (old AND AND_MASK) OR OR_MASK (R348, R377). -/
def Obligations.C1BusAndBursts : Prop :=
  (∀ s : State,
    let bus (b : C1Bus) : State := { s with culvs := { s.culvs with bus := b } }
    let b := s.culvs.bus
    let may := kArbiter s && tandAllows s && !s.pwr.c1Reset && !s.culvs.c1.safe && (s.culvPlot 0).isSome && kEnable s 0
      && busLive s && !s.pwr.blkHeld.getLsbD 4
    (∀ br : Bool, may = true → b.held = false → b.granting = false →
      (c1Work s = true → br = false ∨ b.foreignLast = true →
        exec (.c1Grant br false) s = .next (bus { b with lockForeign := false, held := true, owed := true, phases := 0 }))
      ∧ (br = true → c1Work s = false ∨ b.foreignLast = false →
        exec (.c1Grant br false) s = .next (bus { b with lockForeign := false, granting := true }))
      ∧ exec (.c1Grant br true) s = .next (bus { b with lockForeign := true }))
    ∧ (kArbiter s = false → c1Work s = true → b.held = false →
      exec .c1GrantTaken s = .next (bus { b with held := true, owed := true, phases := 0 }))
    ∧ (b.granting = true → exec .arbNotake s = .next { s with culvs := { s.culvs with
        bus := { b with granting := false }, c1 := { s.culvs.c1 with evt := s.culvs.c1.evt ||| 0x20 } } })
    ∧ (∀ br : Bool, b.held = true → wireOp s 0 = none → s.culvs.c1.chainNow = 0 →
        (c1Work s = false ∨ br = true ∧ kTenure s ≤ b.phases) →
      exec (.tenureEnd br) s = .next { s with culvs := { s.culvs with
        bus := { b with held := false, owed := false, phases := 0, foreignLast := false }
        c1 := if b.owed then { s.culvs.c1 with nullCyc := s.culvs.c1.nullCyc + 1 } else s.culvs.c1 } })
    ∧ (∀ lock : Bool, exec (.foreignAsFall lock) s = .next { s with culvs := { s.culvs with
        bus := { b with granting := false, foreignLast := true, lockForeign := lock }
        c1 := if kInvForeign s then { s.culvs.c1 with bufs := [] } else s.culvs.c1 } })
    ∧ (∀ r : BitVec 3, exec (.prefetchAgeExpire r) s = .next { s with culvs := { s.culvs with
        c1 := { s.culvs.c1 with bufs := s.culvs.c1.bufs.filter (fun x =>
          !(x.1 = r.toNat && decide (clampTo 1 255 ((s.culvW 0 (17 + 2 * r.toNat)).bits 15 8) ≤ s.tick.now - x.2.2.2))) } } })
    ∧ (∀ (r : BitVec 3) (p : Nat), s.culvPlot 0 = some p →
        ∀ w, rdStore 0 s.culvs.c1.pfWant r.toNat = w + 1 →
        let stop := min 0x8000 (kQrBase s r.toNat + kQrLen s r.toNat)
      (plotRuns s p = false ∨ accepting s = false ∨ s.pwr.blkHeld.getLsbD 4 = true →
        exec (.prefetchStart r) s = .next s)
      ∧ (plotRuns s p = true → accepting s = true → s.pwr.blkHeld.getLsbD 4 = false →
          s.culvs.c1.pfBuf.contains r.toNat = true → w < stop → kQrLen s r.toNat ≠ 0 →
          wfStore noEntry s.mem.ledger = true →
          ∀ id, allocId s p (cLedgerCap (s.plot p).wc p) .seep = some id →
        ∃ t, exec (.prefetchStart r) s = .next t
          ∧ (∃ o, t.culvs.c1.ops = s.culvs.c1.ops ++ [o] ∧ o.kind = .prefetch ∧ o.cls = .seep ∧ o.addr = w ∧ o.id = id
            ∧ o.count = min (kQrDepth s r.toNat) (stop - w) ∧ o.stat = .waiting)
          ∧ (t.entry id).opn = true ∧ (t.entry id).kind = .prefetch ∧ (t.entry id).owner = p
          ∧ (∀ i, i ≠ id → t.entry i = s.entry i)
          ∧ t = { s with culvs := t.culvs, mem := t.mem, plots := (readyItem p (classCode .seep) id s).plots }))
    ∧ (∀ (l : Byte) (pf : Bool), ∃ t, exec (.attentionInputChange l pf) s = .next t
        ∧ t.culvs.latn = l ∧ t.culvs.pfail = pf
        ∧ (∀ k < 9, t.culvs.latnEdge.getLsbD k = (s.culvs.latnEdge.getLsbD k ||
            ((rdW s.cfg.route (0x70000 + 10)).bit k && !attnAsserted s k && attnAsserted t k)))
        ∧ t = { s with culvs := { s.culvs with latn := l, pfail := pf, latnEdge := t.culvs.latnEdge } })
    ∧ (∀ (c : CulvId) (x : BitVec 3) (m : Sem), (s.culv c.val).sems.find? (fun k => k.1 = x.toNat) = some (x.toNat, m) →
        kSemTimeout s c.val ≤ s.tick.now - m.since →
      ∃ t, exec (.semTimeout c x) s = .next t
        ∧ t.culv c.val = { s.culv c.val with
            sems := (s.culv c.val).sems.filter (fun k => k.1 ≠ x.toNat), evt := (s.culv c.val).evt ||| 0x10 }
        ∧ (∀ k < 3, k ≠ c.val → t.culv k = s.culv k) ∧ t = { s with culvs := t.culvs }))
  ∧ (∀ (c : CulvId) (cy : Nat) (s : State), culvUsable s c.val = true → ∀ o : COp, nextOp s c.val = some o →
    (∀ x ∈ (s.culv c.val).ops, x.stat = .waiting ∧ x.fail = 0) → culvWaits s c.val = false →
    wfStore noEntry s.mem.ledger = true →
    (s.entry o.id).opn = true →
    let issued (t : State) : Prop :=
      (∀ x ∈ (s.culv c.val).ops, x.id ≠ o.id → x ∈ (t.culv c.val).ops)
      ∧ (∃ x ∈ (t.culv c.val).ops, x.id = o.id ∧ x.stat = .onWire ∧ x.kind = o.kind ∧ x.addr = o.addr
          ∧ x.attempts = (if o.attempts = 0 then 1 else o.attempts))
      ∧ (t.culv c.val).chainNow = o.chain ∧ (t.entry o.id).emitted = true ∧ (t.entry o.id).opn = true
      ∧ (∀ i, i ≠ o.id → t.entry i = s.entry i) ∧ t = { s with culvs := t.culvs, mem := t.mem }
    (c.val = 0 → s.culvs.bus.held = true →
      (∃ t, exec (.culvertIssue c cy false) s = .next t ∧ issued t
        ∧ t.culvs.bus = { s.culvs.bus with lockForeign := false, owed := false, lockOwn := decide (o.chain ≠ 0) })
      ∧ exec (.culvertIssue c cy true) s = .next { s with
          culvs := { s.culvs with bus := { s.culvs.bus with lockForeign := true } } })
    ∧ (c.val ≠ 0 → (s.culv c.val).ser = .idle ∨ (s.culv c.val).ser = .spacing →
      ∃ t, exec (.culvertIssue c cy false) s = .next t ∧ issued t ∧ (t.culv c.val).ser = .sending
        ∧ t.culvs.bus = s.culvs.bus))
  ∧ (∀ (s : State) (l : List COp) (o : COp) (r : List COp), s.culvs.c1.ops = l ++ o :: r →
    (∀ x ∈ l ++ r, x.id ≠ o.id ∧ x.stat ≠ .onWire) → o.stat = .onWire → o.kind = .read → o.chain = 0 →
    o.closed = false → o.cancel = false → o.mute = false → o.req ≠ 0x59 → o.done = 0 → o.got = [] →
    s.hay.injArm = false → (s.entry o.id).opn = true → wfStore noEntry s.mem.ledger = true →
    wfStore FEp.reset s.hub.eps = true →
    let closed (t : State) (x : Close) : Prop := (t.entry o.id).opn = false ∧ (t.entry o.id).close = x
      ∧ (∀ i, i ≠ o.id → t.entry i = s.entry i) ∧ t.culvs.c1.ops = l ++ r
      ∧ t = { s with
          culvs := t.culvs, mem := t.mem, hub := { s.hub with eps := t.hub.eps }, hay := t.hay
          plots := (readyEp o.ep s).plots }
    let result (t : State) (ws : List W) : Prop := (∀ j, j ≠ o.ep + 16 → t.ep j = s.ep j)
      ∧ t.ep (o.ep + 16) = { s.ep (o.ep + 16) with
          wait := (s.ep (o.ep + 16)).wait ++ chopWords (maxPacketWords s o.ep) (ws.length + 1) ws }
    (∀ ph : List C1Phase, ph.length = o.count * unitWords o.unit → o.count ≠ 0 →
        (kParChk s = false ∨ ∀ x ∈ ph, x.parOk = true) →
      ∃ t, exec (.c1BurstEnd ph) s = .next t ∧ closed t .ok ∧ t.culvs.c1.okCnt = s.culvs.c1.okCnt + 1 ∧ t.hay = s.hay
        ∧ t.culvs.bus.phases = s.culvs.bus.phases + ph.length
        ∧ result t (resultHead o.tag (o.culv + 1) 0 0 0 o.attempts false (some o.id) o.count
            ++ (List.range o.count).map (joinUnit (kHighFirst s) o.unit (ph.map C1Phase.data))))
    ∧ (∀ x : C1Phase, kParChk s = true → x.parOk = false → o.count ≠ 0 →
      ∃ t, exec (.c1BurstEnd [x]) s = .next t ∧ closed t .errFar ∧ t.culvs.c1.failCnt = s.culvs.c1.failCnt + 1
        ∧ t.culvs.c1.evt = s.culvs.c1.evt ||| 1 ∧ t.culvs.c1.lastFar = BitVec.ofNat 18 (65536 + o.addr % 32768)
        ∧ t.culvs.c1.farDetail = 1
        ∧ (∀ p, s.culvPlot 0 = some p → t.hay = { s.hay with raised := s.hay.raised ++ [⟨p + 1, 0x18, o.id⟩] })
        ∧ result t (resultHead o.tag (o.culv + 1) 0 1 1 o.attempts false (some o.id) 0))
    ∧ (o.count ≠ 0 →
      ∃ t, exec (.c1AckTimeout []) s = .next t ∧ closed t .timeout ∧ t.culvs.c1.failCnt = s.culvs.c1.failCnt + 1
        ∧ t.culvs.c1.evt = s.culvs.c1.evt ||| 2
        ∧ (∀ p, s.culvPlot 0 = some p → t.hay = { s.hay with raised := s.hay.raised ++ [⟨p + 1, 0x19, o.id⟩] })
        ∧ result t (resultHead o.tag (o.culv + 1) 0 2 1 o.attempts false (some o.id) 0)))
  ∧ (∀ (s : State) (o : COp) (v am om : BitVec 12) (x : C1Phase), s.culvs.c1.ops = [o] → o.stat = .onWire → o.kind = .rmw →
    o.done = 1 → o.got = [v] → o.data = [mkW [(0, 12, am.toNat), (16, 12, om.toNat)]] → o.closed = false →
    o.cancel = false → s.hay.injArm = false → (s.entry o.id).opn = true → wfStore noEntry s.mem.ledger = true →
    ∃ t, exec (.c1BurstEnd [x]) s = .next t ∧ t.culvs.bus.driven = [(v &&& am) ||| om] ∧ t.culvs.c1.ops = []
      ∧ (t.entry o.id).opn = false ∧ (t.entry o.id).close = .ok ∧ (t.entry o.id).done = 1
      ∧ (∀ i, i ≠ o.id → t.entry i = s.entry i))

/-- The serial rows and OP_TIMEOUT for an operation of C2 or C3 of one frame outside a chain (R345, R351, R369 to R371,
R388 to R390): a good reply closes it OK with its bytes; an IDEM attempt that fails is repeated up to three times; a
failed attempt without IDEM closes ERR_UNCERTAIN; the ledger timeout closes it TIMEOUT with DETAIL 3. -/
def Obligations.SerialRows : Prop :=
  ∀ (c : CulvId) (s : State), c.val ≠ 0 → ∀ (l : List COp) (o : COp) (r : List COp), (s.culv c.val).ops = l ++ o :: r →
    (∀ x ∈ l ++ r, x.id ≠ o.id ∧ x.stat ≠ .onWire) → o.stat = .onWire → o.kind = .xfer → o.chain = 0 → o.culv = c.val →
    o.closed = false → o.cancel = false → o.mute = false → o.req ≠ 0x59 → o.fail = 0 → o.frame = 0 → o.reply = [] →
    o.tx.length ≤ kMaxFrame s c.val → (s.entry o.id).opn = true → wfStore noEntry s.mem.ledger = true →
    wfStore FEp.reset s.hub.eps = true →
    let frame (t : State) (plots : List Plot) : Prop := (∀ k < 3, k ≠ c.val → t.culv k = s.culv k)
      ∧ t = { s with
          culvs := t.culvs, mem := t.mem, hub := { s.hub with eps := t.hub.eps }, hay := t.hay, plots := plots }
    let closed (t : State) (x : Close) : Prop := (t.entry o.id).opn = false ∧ (t.entry o.id).close = x
      ∧ (∀ i, i ≠ o.id → t.entry i = s.entry i) ∧ (t.culv c.val).ops = l ++ r
    let result (t : State) (ws : List W) : Prop := (∀ j, j ≠ o.ep + 16 → t.ep j = s.ep j)
      ∧ t.ep (o.ep + 16) = { s.ep (o.ep + 16) with
          wait := (s.ep (o.ep + 16)).wait ++ chopWords (maxPacketWords s o.ep) (ws.length + 1) ws }
      ∧ frame t (readyEp o.ep s).plots
    let kept (t : State) : Prop := (∀ j, t.ep j = s.ep j) ∧ frame t s.plots
    let head (st d n : Nat) : List W := resultHead o.tag (c.val + 1) 2 st d o.attempts false (some o.id) n
    ((s.culv c.val).ser = .sending →
      (o.rxLen = 0 → ∃ t, exec (.serialFrameEnd c false) s = .next t ∧ closed t .ok ∧ result t (head 0 0 0)
        ∧ (t.culv c.val).ser = .spacing ∧ (t.culv c.val).okCnt = (s.culv c.val).okCnt + 1 ∧ t.hay = s.hay)
      ∧ (o.rxLen ≠ 0 → ∃ t, exec (.serialFrameEnd c false) s = .next t
        ∧ t.culv c.val = { s.culv c.val with ser := .waiting } ∧ kept t ∧ t.mem = s.mem ∧ t.hay = s.hay))
    ∧ ((s.culv c.val).ser = .waiting →
      (∀ bs : List Byte, o.rxLen = bs.length ∨ o.rxLen = 255 → bs.length < 255 → bs ≠ [] →
        ∃ t, exec (.serialReplyComplete c (bs.map (fun b => ⟨b, false, false⟩))) s = .next t ∧ closed t .ok
          ∧ result t (head 0 0 bs.length ++ packBytes bs) ∧ (t.culv c.val).ser = .spacing ∧ t.hay = s.hay)
      ∧ (∀ b : Byte, o.idem = false → o.rxLen ≠ 0 →
        ∃ t, exec (.serialReplyComplete c [⟨b, false, true⟩]) s = .next t ∧ closed t .errUncertain
          ∧ result t (head 5 2 0) ∧ (t.culv c.val).farDetail = 2
          ∧ (∀ p, s.culvPlot c.val = some p → t.hay = { s.hay with raised := s.hay.raised ++ [⟨p + 1, 0x1A, o.id⟩] }))
      ∧ (o.idem = false → ∃ t, exec (.replyTimeout c) s = .next t ∧ closed t .errUncertain ∧ result t (head 5 6 0))
      ∧ (o.idem = true → o.attempts < 3 → ∃ t, exec (.replyTimeout c) s = .next t
          ∧ (∃ x ∈ (t.culv c.val).ops, x.id = o.id ∧ x.stat = .between ∧ x.fail = 6 ∧ x.attempts = o.attempts)
          ∧ (t.entry o.id).opn = true ∧ (t.culv c.val).ser = .spacing ∧ kept t)
      ∧ (o.idem = true → 3 ≤ o.attempts → ∃ t, exec (.replyTimeout c) s = .next t ∧ closed t .timeout
          ∧ result t (head 2 2 0)))
    ∧ (∀ id : BitVec 14, id.toNat = o.id → (s.entry o.id).limit ≤ s.tick.now - (s.entry o.id).openAt →
        (∀ k < 3, k ≠ c.val → ∀ x ∈ (s.culv k).ops, x.id ≠ o.id) →
      ∃ t, exec (.opTimeout id) s = .next t ∧ (t.entry o.id).opn = false ∧ (t.entry o.id).close = .timeout
        ∧ (∀ i, i ≠ o.id → t.entry i = s.entry i) ∧ result t (head 2 3 0))
    ∧ (∀ x : COp, x = { o with stat := .between, fail := 6 } → ∀ s' : State,
        s' = s.onCulv c.val (fun k => { k with ops := l ++ x :: r, ser := .spacing }) → culvUsable s' c.val = true →
        culvWaits s' c.val = false → (s.culv c.val).chainNow = 0 → (∀ y ∈ l ++ r, y.stat = .waiting) →
      ∃ t, exec (.serialRetry c) s' = .next t ∧ (t.culv c.val).ser = .sending
        ∧ (t.culv c.val).retries = (s.culv c.val).retries + 1
        ∧ ∃ y ∈ (t.culv c.val).ops, y.id = o.id ∧ y.stat = .onWire ∧ y.fail = 0 ∧ y.attempts = o.attempts + 1)

/-- Frames of the partner (R407 to R410, R416 to R420, R423, R428, R429, R432). A frame whose CRC, LEN or payload length is
wrong is counted and discarded; a sequenced frame is accepted only in order; another is discarded with TAND_SEQ, and
counted in DUPS when it was accepted before. What the device sends in answer goes out with its bytes, while it sends at
all. -/
def Obligations.TandemFrames : Prop :=
  ∀ (s : State) (h : LinkHead) (crc : BitVec 16) (cls : TClass) (pl ws : List W) (iw n : W), tandHears s = true →
    ∀ p, s.tandPlot = some p → s.tand.waiting = [] →
    let t0 : Tand := { s.tand with
      linkSilent := 0, unacked := s.tand.unacked.filter (fun f => 0x8000 ≤ (h.ack - f.1).toNat) }
    let t1 : Tand := { t0 with rxSeq := h.seq, rxAny := true }
    let inOrder := s.tand.rxAny = false ∨ h.seq = s.tand.rxSeq + 1
    let event (k a : Nat) : Hay := { s.hay with raised := s.hay.raised ++ [⟨p + 1, k, a⟩] }
    let frames : List (Nat × List W × Instr) := [(2, pl, .tandMirrorReceived h pl crc),
      (3, iw :: ws, .fwdReq cls h iw ws crc), (4, iw :: ws, .fwdRes h iw ws crc), (5, [], .syncBegin h crc),
      (6, [n], .syncEnd h n crc), (7, [n], .syncAck h n crc), (8, [], .handover h crc)]
    let fits (type : Nat) (ws : List W) : Bool := linkSound type ⟨h, ws, crc⟩ && lenFits type ws
    let id := iw.bits 13 0
    let sent (t : Tand) (f : TFrame) : Tand := { t with
      txSeq := s.tand.txSeq + 1, unacked := t0.unacked ++ [(s.tand.txSeq, s.tick.now, f)]
      txOut := s.tand.txOut ++ [linkFrame false t f.type s.tand.txSeq f.payload] }
    let sends := linkSends s = true ∧ t0.unacked.length < 32 ∧ s.hay.injArm = false
    (∀ c ∈ frames, fits c.1 c.2.1 = false →
      exec c.2.2 s = .next { s with tand := { s.tand with crcErr := s.tand.crcErr + 1 }, hay := event 0x23 0 })
    ∧ (∀ c ∈ frames, fits c.1 c.2.1 = true → ¬inOrder →
      exec c.2.2 s = .next { s with
        tand := { t0 with dups := if (s.tand.rxSeq - h.seq).toNat < 0x8000 then s.tand.dups + 1 else s.tand.dups }
        hay := event 0x24 h.seq.toNat })
    ∧ (inOrder → s.tand.st = .follower →
      (∀ r : W × W, pl = [r.1, r.2] → fits 2 pl = true → wfStore noEntry s.mem.ledger = true →
        (r.1.bits 1 0 = 0 → r.1.bits 3 2 < 2 → (∀ m ∈ s.tand.mirror, recKey m.w0 ≠ recKey r.1) →
            ∀ i, nextOrdinary s = some i →
          ∃ t, exec (.tandMirrorReceived h pl crc) s = .next t
            ∧ t.tand = { t1 with
                syncRx := s.tand.syncRx + 1
                mirror := s.tand.mirror ++ [⟨r.1.bits 29 16, some i, r.1.bit 4, decide (r.1.bits 3 2 = 1), r.1, r.2⟩] }
            ∧ (t.entry i).opn = true ∧ (t.entry i).kind = .mirrored ∧ (t.entry i).owner = p
            ∧ (t.entry i).tag = r.1.bits 15 8
            ∧ (∀ j, j ≠ i → t.entry j = s.entry j) ∧ t = { s with tand := t.tand, mem := t.mem })
        ∧ (r.1.bits 1 0 = 0 → r.1.bits 3 2 = 2 →
            ∀ m, s.tand.mirror.find? (fun m => recKey m.w0 = recKey r.1) = some m →
            ∀ i, m.lid = some i → (s.entry i).opn = true →
          ∃ t, exec (.tandMirrorReceived h pl crc) s = .next t
            ∧ t.tand = { t1 with
                syncRx := s.tand.syncRx + 1, mirror := s.tand.mirror.filter (fun m => recKey m.w0 ≠ recKey r.1) }
            ∧ (t.entry i).opn = false ∧ (∀ j, j ≠ i → t.entry j = s.entry j)
            ∧ t = { s with tand := t.tand, mem := t.mem, free := s.free + 1 })
        ∧ (r.1.bits 1 0 = 1 → r.1.bits 3 2 = 0 →
          ∃ t, exec (.tandMirrorReceived h pl crc) s = .next t
            ∧ (∀ m, (r.1.bits 10 8, m) ∉ t.tand.msems) ∧ t = { s with tand := t.tand }))
      ∧ (fits 5 [] = true → (∀ m ∈ s.tand.mirror, m.lid = none) → exec (.syncBegin h crc) s = .next { s with
          tand := { t1 with mirror := [], msems := [], syncRx := 0, mirrored := false } })
      ∧ (fits 6 [n] = true → sends → exec (.syncEnd h n crc) s = .next { s with
          tand := sent { t1 with mirrored := decide (n.toNat = s.tand.syncRx) } (.syncAck s.tand.syncRx) })
      ∧ (fits 6 [n] = true → linkSends s = false → exec (.syncEnd h n crc) s = .next { s with
          tand := { t1 with mirrored := decide (n.toNat = s.tand.syncRx), waiting := [.syncAck s.tand.syncRx] } })
      ∧ (fits 8 [] = true →
        exec (.handover h crc) s = .next { s with tand := { t1 with handoverRx := true, evt := s.tand.evt ||| 0x40 } }))
    ∧ (inOrder → s.tand.st = .keeper → s.tand.syncing = true → fits 7 [n] = true →
      (n.toNat = s.tand.syncTx → exec (.syncAck h n crc) s = .next { s with
          tand := { t1 with mirrored := true, syncing := false, evt := s.tand.evt ||| 2 }, hay := event 0x1D 0 })
      ∧ (n.toNat ≠ s.tand.syncTx → s.hay.injArm = false →
        ∃ t, exec (.syncAck h n crc) s = .next t ∧ t.tand.syncing = true ∧ t.tand.mirrored = false
          ∧ t = { s with tand := t.tand }))
    ∧ (inOrder → fits 3 (iw :: ws) = true → sends → ∀ r : Req,
      ((frameReq ws).1 = some r → s.tand.st ≠ .keeper ∨ isSevere s (p + 1) = true →
        exec (.fwdReq cls h iw ws crc) s = .next { s with
          tand := sent t1 (.fwdRes id (resultHead r.tag r.culv r.op 7 2 0 false none 0)) })
      ∧ ((frameReq ws).1 = none → (frameReq ws).2 = some r →
        exec (.fwdReq cls h iw ws crc) s = .next { s with
          tand := sent t1 (.fwdRes id (resultHead r.tag r.culv r.op 7 1 0 false none 0)) }))
    ∧ (inOrder → fits 3 (iw :: ws) = true → s.tand.st = .keeper → isSevere s (p + 1) = false →
      (∀ r : Req, accepting s = false → (frameReq ws).1 = some r →
        exec (.fwdReq cls h iw ws crc) s = .next { s with tand := { t1 with rxWait := s.tand.rxWait ++ [(id, cls, ws)] } })
      ∧ (∀ (tag : Byte) (a : BitVec 15) (k : BitVec 7) (q : Nat), accepting s = true → s.tand.rxWait = [] →
          ws = [reqWord0 tag.toNat 1 0 false false true 0, mkW [(0, 15, a.toNat), (16, 7, k.toNat)]] → k ≠ 0 →
          k.toNat ≤ 64 → a.toNat + k.toNat ≤ 0x8000 → kEnable s 0 = true → s.culvPlot 0 = some q → s.culvs.c1.sems = [] →
          wfStore noEntry s.mem.ledger = true → ∀ i, allocId s p (cLedgerCap (s.plot p).wc p) cls = some i →
        ∃ t, exec (.fwdReq cls h iw ws crc) s = .next t ∧ t.tand = t1
          ∧ (∃ o, t.culvs.c1.ops = s.culvs.c1.ops ++ [o] ∧ o.id = i ∧ o.cls = cls ∧ o.req = 0x59 ∧ o.kind = .read
            ∧ o.tag = tag.toNat ∧ o.addr = a.toNat ∧ o.count = k.toNat ∧ o.fwdId = id + 1 ∧ o.stat = .waiting)
          ∧ (t.entry i).opn = true ∧ (t.entry i).owner = p ∧ (t.entry i).cls = cls ∧ (t.entry i).req = 0x59
          ∧ (∀ j, j ≠ i → t.entry j = s.entry j)
          ∧ t = { s with
              tand := t1, culvs := t.culvs, mem := t.mem, plots := (readyItem q (classCode cls) i s).plots }))
    ∧ (inOrder → fits 4 (iw :: ws) = true → (ws.headD 0).bits 12 10 ≤ 3 →
      ((∀ f ∈ s.tand.fwd, f.1 ≠ id) → exec (.fwdRes h iw ws crc) s = .next { s with tand := t1 })
      ∧ (∀ f, (ws.headD 0).bits 19 16 = 0 → s.tand.fwd.find? (fun f => f.1 = id) = some f → (s.entry id).opn = true →
          wfStore noEntry s.mem.ledger = true → wfStore FEp.reset s.hub.eps = true →
        let count := (ws.getD 1 0).bits 31 16
        let words := chopWords (maxPacketWords s f.2.2) ((ws.drop 2).length + 3)
          (ws.headD 0 :: mkW [(0, 14, id), (16, 16, count)] :: ws.drop 2)
        ∃ t, exec (.fwdRes h iw ws crc) s = .next t
          ∧ (t.entry id).opn = false ∧ (t.entry id).close = .ok ∧ (t.entry id).done = count
          ∧ (t.entry id).attempts = (ws.headD 0).bits 25 24 ∧ (∀ j, j ≠ id → t.entry j = s.entry j)
          ∧ t.tand = { t1 with fwd := s.tand.fwd.filter (fun f => f.1 ≠ id) }
          ∧ t.culvs.c1.okCnt = s.culvs.c1.okCnt + 1
          ∧ t.ep (f.2.2 + 16) = { s.ep (f.2.2 + 16) with wait := (s.ep (f.2.2 + 16)).wait ++ words }
          ∧ (∀ j, j ≠ f.2.2 + 16 → t.ep j = s.ep j)
          ∧ t = { s with
              tand := t.tand, mem := t.mem, culvs := t.culvs, hub := { s.hub with eps := t.hub.eps }
              plots := (readyEp f.2.2 s).plots }))

/-- BEAT frames, the HB wire and the rows of the link and the roles (R400, R405 to R408, R410 to R415, R421 to R428,
R431): the beat item sends the BEAT's bytes, once a tick, and a keeper's pulls HB low. -/
def Obligations.TandemRows : Prop :=
  ∀ s : State, tandHears s = true → ∀ p, s.tandPlot = some p →
    let event (k a : Nat) : Hay := { s.hay with raised := s.hay.raised ++ [⟨p + 1, k, a⟩] }
    let bad : State := { s with tand := { s.tand with crcErr := s.tand.crcErr + 1 }, hay := event 0x23 0 }
    exec .tandFrameInvalid s = .next bad
    ∧ (∀ (h : LinkHead) (pair tick : W) (crc : BitVec 16),
      let valid := crc = crc16 (linkBody 1 h.flags h.seq h.ack h.len [pair, tick]) ∧ h.len = 8
        ∧ pair.bits 31 16 = (plotW (s.plot p).wc p 9).bits 31 16
      let role := h.flags.toNat % 4
      (¬valid → exec (.tandBeatReceived h pair tick crc) s = .next bad)
      ∧ (valid → s.tand.waiting = [] → s.tand.st ≠ .keeper ∨ role ≠ 2 ∧ s.tand.linkUp = false →
        exec (.tandBeatReceived h pair tick crc) s = .next { s with tand := { s.tand with
          linkSilent := 0, beatTick := true, partnerRole := role, heardKeeper := s.tand.heardKeeper || role = 2
          unacked := s.tand.unacked.filter (fun f => 0x8000 ≤ (h.ack - f.1).toNat) } }))
    ∧ (∀ r : Running, plotRuns s p = true → (s.plot p).running = some r → r.item.kind = 0 → s.tand.beatSent = false →
        s.pwr.phase ≠ .shutdown →
        exec .beatItem s = .next { s with tand := { s.tand with
          beatSent := true, hbPulse := decide (s.tand.st = .keeper)
          txOut := s.tand.txOut ++ [linkFrame false s.tand 1 s.tand.txSeq
            [BitVec.ofNat 32 ((plotW (s.plot p).wc p 9).bits 31 16 * 65536), s.tick.count]] } })
    ∧ (s.tand.beatSent = true ∨ (s.plot p).running = none → exec .beatItem s = .next s)
    ∧ (∀ f l, s.tand.unacked = f :: l → f.2.1 + 4 ≤ s.tick.now → s.hay.injArm = false → linkSends s = true →
        exec .tandResend s = .next { s with tand := { s.tand with
          retx := s.tand.retx + 1, unacked := s.tand.unacked.map (fun x => (x.1, s.tick.now, x.2.2))
          txOut := s.tand.txOut ++
            s.tand.unacked.map (fun x => linkFrame false s.tand x.2.2.type x.1 x.2.2.payload) } })
    ∧ (s.tand.unacked = [] ∨ linkSends s = false → exec .tandResend s = .next s)
    ∧ (s.tand.st ≠ .keeper → exec .hbPulse s = .next { s with tand := { s.tand with hbSilent := 0, heardKeeper := true } })
    ∧ (s.tand.st = .keeper → ∃ t, exec .hbPulse s = .next t ∧ t.tand.hbSilent = 0 ∧ t.tand.evt.getLsbD 4 = true
        ∧ (⟨p + 1, 0x20, 0⟩ : Event) ∈ t.hay.raised ∧ (t.tand.st = .keeper ∨ t.tand.st = .fenced)
        ∧ ((plotW (s.plot p).wc p 9).bit 0 = false → t.tand.st = .fenced))
    ∧ exec .hbStuck s = .next { s with tand := { s.tand with evt := s.tand.evt ||| 0x20 }, hay := event 0x22 0 }
    ∧ (s.tand.linkUp = false → 4 ≤ s.tand.beatRun →
        s.tand.st ≠ .keeper ∨ s.tand.partnerRole ≠ 1 ∨ s.tand.mirrored = true ∨ s.tand.syncing = true →
        exec .tandLinkUp s = .next { s with tand := { s.tand with linkUp := true } })
    ∧ (s.tand.linkUp = true → 8 ≤ s.tand.linkSilent →
        ∃ t, exec .tandLinkLost s = .next t ∧ t.tand.linkUp = false ∧ t.tand.mirrored = false ∧ t.tand.st = s.tand.st
          ∧ t.tand.evt = s.tand.evt ||| 1 ∧ (⟨p + 1, 0x1C, 0⟩ : Event) ∈ t.hay.raised
          ∧ (s.tand.st = .follower → t.tand.fwd = [] ∧ t.tand.mirror = s.tand.mirror
            ∧ ((∀ f ∈ s.tand.fwd, ∀ g ∈ s.tand.toSend, g.1 ≠ f.1) → t.tand.toSend = s.tand.toSend))
          ∧ (s.tand.st = .keeper → ∀ e ∈ t.culvs.c1.sems, e.2.partner = false))
    ∧ (s.tand.st = .listen → (plotW (s.plot p).wc p 9).bit 0 = false ∨ s.tand.heardKeeper = true →
        exec .tandListenEnd s = .next { s with tand := { s.tand with st := .follower } })
    ∧ (s.tand.st = .listen → (plotW (s.plot p).wc p 9).bit 0 = true → s.tand.heardKeeper = false →
        (s.tand.startAt + 40 ≤ s.tick.now → s.tand.linkUp = false →
          ∃ t, exec .tandListenEnd s = .next t ∧ t.tand.st = .keeper ∧ t = { s with tand := t.tand })
        ∧ (s.tick.now < s.tand.startAt + 40 → exec .tandListenEnd s = .next s))
    ∧ (s.tand.st = .follower → (s.tand.handoverRx = true ∨ s.tand.linkUp = false ∧ 32 ≤ s.tand.hbSilent) →
        s.tand.toSend = [] → s.hay.injArm = false → wfStore noEntry s.mem.ledger = true →
        ∃ t, exec .tandTakeover s = .next t ∧ t.tand.st = .keeper ∧ t.tand.mirror = [] ∧ t.tand.msems = []
          ∧ t.tand.takeovers = s.tand.takeovers + 1 ∧ t.tand.evt = s.tand.evt ||| 4 ∧ t.hay = event 0x1E 0
          ∧ (∀ m ∈ s.tand.mirror, ∀ i, m.lid = some i → (t.entry i).opn = false)
          ∧ (∀ i, (∀ m ∈ s.tand.mirror, m.lid ≠ some i) → t.entry i = s.entry i)
          ∧ (∀ e ∈ s.tand.msems, e.2.partner = true → ∃ m, (e.1, m) ∈ t.culvs.c1.sems))
    ∧ (s.tand.st = .keeper → 8 ≤ s.tand.beatMiss → wfStore noEntry s.mem.ledger = true →
        ∃ t, exec .tandSelfFence s = .next t ∧ t.tand.st = .fenced ∧ t.tand.evt = s.tand.evt ||| 8
          ∧ t.culvs.bus.held = false ∧ t.culvs.bus.lockOwn = false ∧ t.culvs.bus.granting = false
          ∧ (⟨p + 1, 0x1F, 0⟩ : Event) ∈ t.hay.raised ∧ t.culvs.c1.ops = []
          ∧ (∀ i, (t.entry i).opn = true → (t.entry i).culv = 1 → (t.entry i).kind ≠ .culvert ∧ (t.entry i).kind ≠ .prefetch))
    ∧ (s.tand.st = .fenced → plotRuns s p = true →
        ∃ t, exec .tandFencedToListen s = .next t ∧ t.tand.st = .listen ∧ t.tand.startAt = s.tick.now
          ∧ t = { s with tand := t.tand })

/-! ### Ports and Type-C -/

/-- The rows of the port command word and the counter clears (R64, R300, R467, R468, R480 to R482, R491, R496, R508), with
no word waiting in the path's write buffer (R172, R173): ON and OFF are requests, and set or clear WANT of a Type-C port;
FORCE_SET is an OFF request as well; LATCH_CLR is refused while classifying, and for SAFE while the Hayward holds the
port; a rail command of DP1 to DP12, or a RAIL_HV that is not accepted, has no effect. With a word waiting there, a tally
row ends NOT_READY, and a USB row is answered NAK. -/
def Obligations.PortCommands : Prop :=
  (∀ (path : Path) (port : PortId) (p : PlotId) (s : State), mayAccess path s = true → (s.win path).wbuf = none →
    let n := port.val
    let q := s.port n
    let does (c : Instr) (f : State → State) : Prop := exec c s = .next (accessed path f s)
    let wants (on : Bool) (s : State) : State :=
      if 12 ≤ n ∧ tcEn s (n - 12) = true then s.onTc (n - 12) (fun x => { x with want := on }) else s
    does (.portCmdOn path port) (fun s => wants true (s.onPort n (fun p => { p with reqs := p.reqs ++ [true] })))
    ∧ does (.portCmdOff path port) (fun s => wants false (s.onPort n (fun p => { p with reqs := p.reqs ++ [false] })))
    ∧ does (.forceSet path port) (fun s =>
        s.onPort n (fun p => { p with forceOff := true, reqs := p.reqs ++ [false] }))
    ∧ does (.forceClr path port) (fun s => s.onPort n (fun p => { p with forceOff := false }))
    ∧ (q.classifying = false → ¬(q.latch = .safe ∧ q.safe = true) →
        does (.latchClr path port) (fun s =>
          s.onPort n (fun p => { p with latch := .none, vOpen := false, iOpen := false, post := [] })))
    ∧ (q.classifying = true ∨ q.latch = .safe ∧ q.safe = true → does (.latchClr path port) (fun s => s))
    ∧ (12 ≤ n → pHvAllow s n = true → q.st = .on → (s.tc (n - 12)).st = .attached →
        does (.railHv path port) (fun s =>
          s.onPort n (fun p => { p with railBusy := some (true, s.tick.now + 1 + pRailSettle s n) })))
    ∧ (n < 12 ∨ pHvAllow s n = false ∨ q.st ≠ .on ∨ (s.tc (n - 12)).st ≠ .attached →
        does (.railHv path port) (fun s => s))
    ∧ (12 ≤ n → does (.rail5v path port) (fun s =>
          s.onPort n (fun p => { p with railBusy := some (false, s.tick.now + 1 + pRailSettle s n) })))
    ∧ (n < 12 → does (.rail5v path port) (fun s => s))
    ∧ does (.portUsbCountersClr path port) (fun s =>
        s.onHubPort n (fun h => { h with resets := 0, errors := 0, retries := 0, npFail := 0, perMiss := 0 }))
    ∧ does (.plotStatusClr path p) (fun s =>
        s.onPlot p.val (fun q => { q with peakUsed := 0, peakSpate := 0, ovrCnt := 0, spxCnt := 0 })))
  ∧ (∀ (path : Path) (port : PortId) (p : PlotId) (s : State), mayAccess path s = true → (s.win path).wbuf.isSome = true →
    ∀ c ∈ ([.portCmdOn path port, .portCmdOff path port, .forceSet path port, .forceClr path port, .latchClr path port,
        .railHv path port, .rail5v path port, .portUsbCountersClr path port, .plotStatusClr path p] : List Instr),
      exec c s = .next (match path with
        | .tally => { shown .tally s with tally := { (shown .tally s).tally with last := .notReady, notReady := true } }
        | .usb => { shown .usb s with usb := { (shown .usb s).usb with resp := ⟨.nak, [], []⟩ } }))

/-- PORT_REQUEST_TAKEN, RAMP_END, DISCHARGE_END and DISCHARGE_SLOW, PORT_SLOW_OC, the rail rows and PROTECTION_TRIP
(R463, R467 to R470, R480 to R485, R490). A port that protection switches off leaves the bus with PORT_OVER_CURRENT
(R265).

WARDEN_SAMPLE_SET, ADC_SET_DROP and TRIP_CLASSIFIED (R466, R474, R476 to R479, R486 to R490): a set gives each port of
the warden its VSNS code and its ISNS code in ascending order, once; the samples of a poisoned word are invalid (R334);
the quantities come from pair means; two samples at opposite extremes, each agreeing with its bias, are an open wire; a
trip is one event. -/
def Obligations.PortPowerAndSamples : Prop :=
  (∀ (port : PortId) (s : State), s.ports.length = 16 → s.hub.ports.length = 17 →
    let n := port.val
    let p := s.port n
    let h := s.hubPort n
    let only (t : State) (q : PPort) : Prop := t.port n = q ∧ ∀ m, m ≠ n → t.port m = s.port m
    let entered (v : PState) (q : PPort) : PPort := { q with
      st := v, since := s.tick.now, ocRun := 0, lowRun := 0, slowRaised := false, safeDue := false, uv := false }
    let railLow (q : PPort) : PPort := { q with hvSel := false, rail := false, railBusy := none, ovpHv := false }
    let dark (q : PPort) : PPort := { railLow (entered .discharge q) with hostOn := false, pendOn := false }
    let event (k : Nat) : Hay := { s.hay with raised := s.hay.raised ++ [⟨0x41 + n, k, n + 1⟩] }
    let leaves (oc : Bool) (hay : Hay) (t : State) : Prop :=
      (t.hubPort n).st = .poweredOff ∧ (h.st ≠ .poweredOff → (t.hubPort n).cOc = (h.cOc || oc))
      ∧ ((∀ x ∈ s.hub.splits, x.port ≠ n) →
        (∀ m, m ≠ n → t.hubPort m = s.hubPort m) ∧ t = { s with ports := t.ports, hub := t.hub, hay := hay })
    (wardenRuns s n = true →
      let off := (p.reqs ++ p.tcReqs).contains false
      let on := (p.reqs.contains true && actsOn s n) || p.tcReqs.contains true
      let taken : PPort := { p with reqs := [], tcReqs := [] }
      (off = true → p.st = .ramp ∨ p.st = .on →
        ∃ t, exec (.portRequestTaken port) s = .next t
          ∧ only t { railLow (entered .discharge taken) with pendOn := false } ∧ leaves false s.hay t)
      ∧ (off = true → p.st = .off ∨ p.st = .discharge →
        ∃ t, exec (.portRequestTaken port) s = .next t ∧ only t { taken with pendOn := false } ∧ t = { s with ports := t.ports })
      ∧ (off = false → on = true → refusesOn s n = false → p.st = .off →
        ∃ t, exec (.portRequestTaken port) s = .next t ∧ only t { entered .ramp taken with pendOn := false }
          ∧ t = { s with ports := t.ports })
      ∧ (off = false → on = true → refusesOn s n = false → p.st = .discharge →
        ∃ t, exec (.portRequestTaken port) s = .next t ∧ only t { taken with pendOn := true } ∧ t = { s with ports := t.ports })
      ∧ (off = false → on = true → refusesOn s n = true ∨ p.st = .ramp ∨ p.st = .on →
        ∃ t, exec (.portRequestTaken port) s = .next t ∧ only t taken ∧ t = { s with ports := t.ports })
      ∧ (off = false → on = false → p.st = .off → p.pendOn = true →
        ∃ t, exec (.portRequestTaken port) s = .next t ∧ only t { entered .ramp taken with pendOn := false }
          ∧ t = { s with ports := t.ports })
      ∧ (p.st = .ramp → p.since + pSsTicks s n ≤ p.setAt + 1 →
        (p.v.reason = 0 → pPgTh s n ≤ p.v.code →
          ∃ t, exec (.rampEnd port) s = .next t ∧ only t (entered .on p)
            ∧ (t.hubPort n).st = (if p.hostOn = true ∧ h.st = .poweredOff then .disconnected else h.st)
            ∧ t = { s with ports := t.ports, hub := { s.hub with ports := t.hub.ports } })
        ∧ (p.v.reason ≠ 0 ∨ p.v.code < pPgTh s n →
          ∃ t, exec (.rampEnd port) s = .next t
            ∧ only t { railLow (entered .discharge p) with rampFails := p.rampFails + 1, evt := p.evt ||| 4 }
            ∧ leaves false (event 0x2E) t))
      ∧ (p.st = .ramp → p.setAt + 1 < p.since + pSsTicks s n → exec (.rampEnd port) s = .next s)
      ∧ (p.st = .discharge →
        (2 ≤ p.lowRun → ∃ t, exec (.dischargeEnd port) s = .next t ∧ only t (railLow (entered .off p))
          ∧ t = { s with ports := t.ports })
        ∧ (p.lowRun < 2 → p.v.reason ≠ 0 → p.since + pDischTo s n ≤ s.tick.now → p.slowRaised = false →
          ∃ t, exec (.dischargeEnd port) s = .next t
            ∧ only t { railLow (entered .off p) with pendOn := false, evt := p.evt ||| 8 }
            ∧ t = { s with ports := t.ports, hay := event 0x2F })
        ∧ (p.lowRun < 2 → (p.v.reason = 0 ∨ s.tick.now < p.since + pDischTo s n) → exec (.dischargeEnd port) s = .next s)
        ∧ (p.since + pDischTo s n ≤ s.tick.now → p.slowRaised = false →
          ∃ t, exec (.dischargeSlow port) s = .next t ∧ only t { p with slowRaised := true, evt := p.evt ||| 8 }
            ∧ t = { s with ports := t.ports, hay := event 0x2F })
        ∧ (p.slowRaised = true → exec (.dischargeSlow port) s = .next s))
      ∧ (p.st = .on → pIlimTicks s n ≤ p.ocRun →
        ∃ t, exec (.portSlowOc port) s = .next t ∧ only t { dark p with latch := .slowOc } ∧ leaves true (event 0x2C) t)
      ∧ (p.st = .on → ∀ (d a b : Nat), p.v.recent = [a, b] →
        (p.railBusy = some (true, d) → p.hvSel = true →
          (s.tick.now ≤ d → 2 * pPgHv s n ≤ a + b →
            ∃ t, exec (.railDone port) s = .next t ∧ only t { p with rail := true, railBusy := none, evt := p.evt ||| 64 }
              ∧ t = { s with ports := t.ports })
          ∧ (d ≤ s.tick.now → ∃ t, exec (.portRailFail port) s = .next t
              ∧ only t { p with
                  hvSel := false, railBusy := some (false, s.tick.now + pRailSettle s n), evt := p.evt ||| 128 }
              ∧ t = { s with ports := t.ports, hay := event 0x30 }))
        ∧ (p.railBusy = some (false, d) → p.hvSel = false → (d ≤ s.tick.now ∨ a + b < 2 * pOvp5 s n) →
            ∃ t, exec (.railDone port) s = .next t
              ∧ only t { p with rail := false, railBusy := none, ovpHv := false, evt := p.evt ||| 64 }
              ∧ t = { s with ports := t.ports })))
    ∧ ∀ (c : Comparator) (cyc : Nat),
      (p.safe = false → (p.st = .on ∨ p.st = .ramp ∧ c ≠ .reverse) →
        ∃ t, exec (.protectionTrip port c cyc) s = .next t
          ∧ only t { dark p with
              evt := p.evt ||| 1, classifying := true, trips := p.trips + 1, tripTick := s.tick.count
              tripCyc := 60000 * s.tick.now + cyc, post := []
              latch := match c with
                | .overVoltage => .ovp
                | .overCurrent => .ocp
                | .reverse => .rcp }
          ∧ (t.hubPort n).st = .poweredOff ∧ (h.st ≠ .poweredOff → (t.hubPort n).cOc = true)
          ∧ t.pwr = (if s.pwr.phase = .rest ∧ s.pwr.wake = false then
              { s.pwr with wake := true, wakeAt := s.tick.now } else s.pwr)
          ∧ ((∀ x ∈ s.hub.splits, x.port ≠ n) → t = { s with ports := t.ports, hub := t.hub, pwr := t.pwr }))
      ∧ (p.st = .off ∨ p.st = .discharge → exec (.protectionTrip port c cyc) s = .next s))
  ∧ (∀ (q : PlotId) (s : State), s.ports.length = 16 → s.hub.ports.length = 17 →
    let evt (n : Nat) (k a : Nat) : Hay := { s.hay with raised := s.hay.raised ++ [⟨0x41 + n, k, a⟩] }
    let only (n : Nat) (t : State) (x : PPort) : Prop := t.port n = x ∧ ∀ m, m ≠ n → t.port m = s.port m
    (plotRuns s q.val = true → s.role q.val = rWARD →
      (popSet q.val s = none → exec (.wardenSampleSet q) s = .next s)
      ∧ ∀ (ws : List (BitVec 12)) (bad : Bool) (s1 : State), popSet q.val s = some (ws, bad, s1) →
        let tick := (ws.getD 0 0).toNat
        let waits (n : Nat) : Bool := (s.port n).marks.any (fun m => m.1 = tick)
        (∃ t, exec (.wardenSampleSet q) s = .next t
          ∧ (∀ k n, (maskPorts s q.val)[k]? = some n → waits n = true →
              (t.port n).v.code = (ws.getD (1 + 2 * k) 0).toNat ∧ (t.port n).i.code = (ws.getD (2 + 2 * k) 0).toNat
              ∧ (bad = true → (t.port n).v.reason ≠ 0 ∧ (t.port n).i.reason ≠ 0))
          ∧ (∀ n, n ∉ maskPorts s q.val ∨ waits n = false → t.port n = s.port n) ∧ t.sluices = s1.sluices)
        ∧ ∀ n : Nat, bad = false → maskPorts s q.val = [n] →
            ∀ v : Nat, v = (ws.getD 1 0).toNat → ∀ i : Nat, i = (ws.getD 2 0).toNat →
            let p := s.port n
            let even := tick % 2 = 0
            let evt (k a : Nat) : Hay := { s1.hay with raised := s1.hay.raised ++ [⟨0x41 + n, k, a⟩] }
            p.marks = [(tick, 0, 0)] →
          (∀ a, p.v.recent = [a] → ∀ b, p.i.recent = [b] → p.v.pair = none → p.i.pair = none → p.vOpen = false → p.iOpen = false →
            let low := decide (v + a < 2 * pUvTh s n)
            ∃ t, exec (.wardenSampleSet q) s = .next t
              ∧ (t.port n).vMv = min 65535 ((v + a) * pVFs s n / 8192)
              ∧ (t.port n).iMa = (((i + b : Nat) : Int) - 2 * (pIZero s n : Int)) * (pIFs s n : Int) / 8192
              ∧ (t.port n).v.reason = 0 ∧ (t.port n).v.recent = [v, a] ∧ (t.port n).i.recent = [i, b]
              ∧ (t.port n).ocRun = (if p.st = .on ∧ 2 * pIlim s n < i + b then p.ocRun + 1 else 0)
              ∧ (t.port n).lowRun = (if p.st = .discharge then (if v < d08 s n then p.lowRun + 1 else 0) else p.lowRun)
              ∧ (t.port n).uv = (if p.st = .on then low else p.uv) ∧ (t.port n).st = p.st ∧ (t.port n).latch = p.latch
              ∧ (∀ m, m ≠ n → t.port m = s.port m)
              ∧ t = { s1 with
                  ports := t.ports
                  hay := if p.st = .on ∧ p.uv = false ∧ low = true then evt 0x2D (n + 1) else s1.hay })
          ∧ (∀ c : Nat, p.v.pair = some (c, decide (¬even)) → p.i.pair = none → p.vOpen = false → p.classifying = false →
              p.st ≠ .on → p.st ≠ .ramp →
              (if even then pOpenHi s n ≤ v ∧ c ≤ pOpenLo s n else v ≤ pOpenLo s n ∧ pOpenHi s n ≤ c) →
            ∃ t, exec (.wardenSampleSet q) s = .next t
              ∧ (t.port n).latch = .openV ∧ (t.port n).vOpen = true ∧ (t.port n).iOpen = p.iOpen ∧ (t.port n).pendOn = false
              ∧ (t.port n).opens = p.opens + 1 ∧ (t.port n).evt = p.evt ||| 2 ∧ (t.port n).st = p.st
              ∧ (∀ m, m ≠ n → t.port m = s.port m)
              ∧ t = { s1 with ports := t.ports, hay := evt 0x2B (n + 1) }))
    ∧ (∀ ws : List (BitVec 12), (q.val, ws) ∈ s.adc.sets → s.role q.val = rWARD → ∀ n : Nat, maskPorts s q.val = [n] → n < 16 →
      ∃ t, exec (.adcSetDrop q) s = .next t
        ∧ (t.port n).setDrops = (s.port n).setDrops + 1 ∧ (t.port n).evt = (s.port n).evt ||| 32
        ∧ (t.port n).v = { (s.port n).v with reason := 5 } ∧ (t.port n).i = { (s.port n).i with reason := 5 }
        ∧ (t.port n).st = (s.port n).st ∧ (∀ m, m ≠ n → t.port m = s.port m)
        ∧ t.adc = { s.adc with sets := s.adc.sets.filter (fun x => x.1 ≠ q.val) }
        ∧ t = { s with
            ports := t.ports, sluices := t.sluices, adc := t.adc
            hay := { s.hay with raised := s.hay.raised ++ [⟨q.val + 1, 0x26, 0⟩] } })
    ∧ ∀ port : PortId,
      let n := port.val
      let p := s.port n
      let current := decide (p.latch = .ocp ∨ p.latch = .rcp)
      wardenRuns s n = true → p.classifying = true →
      (postOpen s n p.post = true →
        ∃ t, exec (.tripClassified port) s = .next t
          ∧ only n t { p with
              classifying := false, post := [], opens := p.opens + 1, evt := p.evt ||| 2
              latch := if current = true then .openI else .openV
              vOpen := p.vOpen || !current, iOpen := p.iOpen || current }
          ∧ t = { s with ports := t.ports, hay := evt n 0x2B (n + 1 + if current = true then 32 else 0) })
      ∧ (postOpen s n p.post = false → 3 ≤ p.post.length →
        ∃ t, exec (.tripClassified port) s = .next t ∧ only n t { p with classifying := false, post := [] }
          ∧ t = { s with
              ports := t.ports
              hay := evt n (match p.latch with
                | .ovp => 0x28
                | .ocp => 0x29
                | _ => 0x2A) (n + 1) })
      ∧ (postOpen s n p.post = false → p.post.length < 3 → exec (.tripClassified port) s = .next s))

/-- PD_CMD (R500, R506, R512, R514, R518, R519, R522, R523, R532, R538), with no word waiting in the path's write buffer:
with TC_EN at 0 a command does nothing; a SEND is taken, or refused with the first reason that holds; any other command
acts or is refused with CMD_REF.

An event flag of PD_EVT (R529, R538): it is set and nothing else of the port changes; with RX_ROUTE at 1 a flag other
than RX_MSG that becomes 1 sends one KIND 2 packet on endpoint 4 IN. The end of a SEND (R519, R528, R542): TX_RESULT and
TX_DONE, the event of a failed one, and a result for the endpoint 4 request that sent it.

The requests of endpoint 4 OUT (R328, R500, R528, R529, R533, R535). That one of a port with TC_EN at 0 is rejected with 7
is the model's choice (log 89). -/
def Obligations.PdCommands : Prop :=
  (∀ (path : Path) (i : TcId) (level : BitVec 2) (s : State), mayAccess path s = true → (s.win path).wbuf = none →
    s.tcs.length = 4 →
    let q := s.tc i.val
    let does (c : Instr) (f : State → State) : Prop := exec c s = .next (accessed path f s)
    let keeps (c : Instr) : Prop := does c (fun s => s)
    let sets (c : Instr) (f : TcPort → TcPort) : Prop := does c (State.onTc i.val f)
    let ends (c : Instr) (r : Nat) (f : TcPort → TcPort) : Prop := does c (fun s => (pdFinish r i.val s).onTc i.val f)
    let refused (c : Instr) : Prop := does c (setPd 11 i.val)
    let rows : List Instr := [.send path i, .hardReset path i, .cableReset path i, .pdCancel path i, .rxPop path i,
      .rxFlush path i, .vconnOn path i, .vconnOff path i, .rp path i level, .amsEnd path i, .errorRecovery path i,
      .bistCarrier path i]
    (tcEn s i.val = false → ∀ c ∈ rows, keeps c)
    ∧ (tcEn s i.val = true →
      let sop := q.txDesc.bits 1 0
      let len := q.txDesc.bits 12 8
      let why := if q.phy ≠ .idle then 1 else if q.st ≠ .attached then 2
        else if (sop = 1 ∨ sop = 2) ∧ q.vconn = false then 3
        else if len < 2 ∨ 30 < len ∨ sop = 3 then 4 else if q.hrSend = true then 5 else 0
      let wait := tcCollAvoid s i.val && q.rpNow = 3 && q.txDesc.bit 2
      (why ≠ 0 → does (.send path i) (fun s =>
        setPd 3 i.val (s.onTc i.val (fun q => { q with txResult := 7, refuseWhy := why }))))
      ∧ (why = 0 → sets (.send path i) (fun q => { q with
          phy := if wait = true then .amsWait else .pending, rpNow := if wait = true then 2 else q.rpNow
          sinkNg := q.sinkNg || wait, cancelled := false, txTries := 0, txSop := sop, txEp4 := false }))
      ∧ (q.phy = .idle → sets (.hardReset path i) (fun q => { q with hrSend := true }))
      ∧ (q.phy ≠ .idle → ends (.hardReset path i) 6 (fun q => { q with hrSend := true }))
      ∧ (q.vconn = true → q.phy = .idle → sets (.cableReset path i) (fun q => { q with crSend := true }))
      ∧ (q.vconn = true → q.phy ≠ .idle → ends (.cableReset path i) 6 (fun q => { q with crSend := true }))
      ∧ (q.vconn = false → refused (.cableReset path i))
      ∧ (q.phy = .idle → keeps (.pdCancel path i))
      ∧ (q.phy = .gcrcWait → sets (.pdCancel path i) (fun q => { q with cancelled := true }))
      ∧ (q.phy = .amsWait ∨ q.phy = .pending → does (.pdCancel path i) (pdFinish 4 i.val))
      ∧ (q.rxCount = 0 → refused (.rxPop path i) ∧ refused (.rxFlush path i))
      ∧ (q.rxCount ≠ 0 →
        sets (.rxPop path i) (fun q => { q with rxCount := q.rxCount - 1, rxHead := (q.rxHead + 1) % 8 })
        ∧ sets (.rxFlush path i) (fun q => { q with rxCount := 0, rxHead := (q.rxHead + q.rxCount) % 8 }))
      ∧ (let may := q.st = .attached ∧ tcVconnAllow s i.val = true ∧ s.pwr.vconnIn = true ∧ q.noGate = false
            ∧ (s.port (12 + i.val)).safe = false
        (may → sets (.vconnOn path i) (fun q => { q with vconn := true })) ∧ (¬may → refused (.vconnOn path i)))
      ∧ sets (.vconnOff path i) (fun q => { q with vconn := false })
      ∧ (level = 0 → keeps (.rp path i level))
      ∧ (level ≠ 0 → sets (.rp path i level) (fun q => { q with rpReq := some level.toNat }))
      ∧ (q.sinkNg = true → sets (.amsEnd path i) (fun q => { q with sinkNg := false, rpNow := 3 }))
      ∧ (q.sinkNg = false → keeps (.amsEnd path i))
      ∧ (q.st = .disabled ∨ q.st = .ccFault → keeps (.errorRecovery path i))
      ∧ (q.st ≠ .disabled → q.st ≠ .ccFault → sets (.errorRecovery path i) (fun q => { q with recReq := true }))
      ∧ sets (.bistCarrier path i) (fun q => { q with bist := true })))
  ∧ (∀ (i : TcId) (k : Fin 12) (r : Nat) (s : State), s.tcs.length = 4 → wfStore FEp.reset s.hub.eps = true →
    let q := s.tc i.val
    let n := 12 + i.val
    (let t := setPd k.val i.val s;
      t.tc i.val = { q with evt := q.evt ||| BitVec.ofNat 12 (2 ^ k.val) } ∧ (∀ j, j ≠ i.val → t.tc j = s.tc j)
      ∧ (tcRxEp4 s i.val = false ∨ k = 2 ∨ q.evt.getLsbD k.val = true → t = { s with tcs := t.tcs })
      ∧ (tcRxEp4 s i.val = true → k ≠ 2 → q.evt.getLsbD k.val = false →
          ∃ w, t.ep 20 = { s.ep 20 with wait := (s.ep 20).wait ++ [[BitVec.ofNat 32 (256 * i.val + 2048), w]] }
            ∧ (∀ e, e ≠ 20 → t.ep e = s.ep e) ∧ w.setWidth 12 = (t.tc i.val).evt
            ∧ t = { s with tcs := t.tcs, hub := { s.hub with eps := t.hub.eps }, plots := (readyEp 4 s).plots }))
    ∧ (let t := pdFinish r i.val s;
      t.tc i.val = { q with
        phy := .idle, cancelled := false, txResult := r, evt := q.evt ||| 8
        txFails := if r = 2 then q.txFails + 1 else q.txFails, ep4 := q.ep4.filter (fun e => e.1 ≠ 0) }
      ∧ (∀ j, j ≠ i.val → t.tc j = s.tc j) ∧ (∀ e, e ≠ 20 → t.ep e = s.ep e)
      ∧ (tcRxEp4 s i.val = false → t.ep 20 = { s.ep 20 with
          wait := (s.ep 20).wait ++ (q.ep4.filter (fun e => e.1 = 0)).map (fun e =>
            [mkW [(0, 8, e.2), (8, 2, i.val), (12, 3, r)], s.tick.count]) })
      ∧ t = { s with
          tcs := t.tcs, hub := { s.hub with eps := t.hub.eps }, plots := t.plots
          hay := if r = 2 then { s.hay with raised := s.hay.raised ++ [⟨0x41 + n, 0x32, n + 1⟩] } else s.hay }))
  ∧ (∀ (i : TcId) (tag : Byte) (sop : BitVec 2) (ams : Bool) (bytes : List Byte) (s : State),
    s.tcs.length = 4 → wfStore FEp.reset s.hub.eps = true →
    let q := s.tc i.val
    let say (hs : Hs) : State := { s with usb := { s.usb with resp := ⟨hs, [], []⟩ } }
    let send : Instr := .ep4Send i tag sop ams bytes
    let others : List Instr := [.ep4HardReset i tag, .ep4CableReset i tag, .ep4Cancel i tag, .ep4BistCarrier i tag]
    let result (r : Nat) : List W := [BitVec.ofNat 32 (tag.toNat + 256 * i.val + 4096 * r), s.tick.count]
    let up := usbUp s = true ∧ (s.hubPort 16).st = .enabled
    (¬up → ∀ c ∈ send :: others, exec c s = .next s)
    ∧ (up → (s.ep 4).halted = true → ∀ c ∈ send :: others, exec c s = .next (say .stall))
    ∧ (up → (s.ep 4).halted = false →
        (s.funcPlot 4 = none ∨ epServes s 4 = false
          ∨ ∃ p, s.funcPlot 4 = some p ∧ claimWaits s (2 * p) 0x40 = true) →
        ∀ c ∈ send :: others, exec c s = .next (say .nak))
    ∧ (up → (s.ep 4).halted = false → ∀ p, s.funcPlot 4 = some p → epServes s 4 = true →
        claimWaits s (2 * p) 0x40 = false →
      let only (t : State) : Prop := (∀ j, j ≠ i.val → t.tc j = s.tc j) ∧ (∀ e, e ≠ 20 → t.ep e = s.ep e)
        ∧ t = { say .ack with
            tcs := t.tcs, hub := { s.hub with eps := t.hub.eps }
            plots := (readyItem p (classCode (epClass s p 4)) (epRef 4) s).plots }
      let takes (c : Instr) (x : TcPort) : Prop := ∃ t, exec c s = .next t ∧ t.tc i.val = x ∧ t.hub = s.hub ∧ only t
      let replies (c : Instr) (r : Nat) (x : TcPort → Prop) : Prop :=
        ∃ t, exec c s = .next t ∧ (t.ep 20).wait.getLast? = some (result r) ∧ x (t.tc i.val) ∧ only t
      let refused := q.phy ≠ .idle ∨ q.st ≠ .attached ∨ sop ≠ 0 ∧ q.vconn = false ∨ sop = 3 ∨ bytes.length < 2
        ∨ 30 < bytes.length ∨ q.hrSend = true
      let wait := ams && tcCollAvoid s i.val && decide (q.rpNow = 3)
      (refused → replies send 7 (fun x => x.phy = q.phy ∧ x.txResult = 7 ∧ x.ep4 = q.ep4))
      ∧ (¬refused → ∃ t, exec send s = .next t
          ∧ (t.tc i.val).phy = (if wait = true then .amsWait else .pending) ∧ (t.tc i.val).txSop = sop.toNat
          ∧ (t.tc i.val).ep4 = q.ep4 ++ [(0, tag.toNat)] ∧ txMessage (t.tc i.val) = bytes ∧ t.hub = s.hub ∧ only t)
      ∧ (tcEn s i.val = false → ∀ c ∈ others, replies c 7 (fun x => x = q))
      ∧ (tcEn s i.val = true →
        (q.phy = .idle → takes (.ep4HardReset i tag) { q with hrSend := true, ep4 := q.ep4 ++ [(1, tag.toNat)] })
        ∧ (q.phy ≠ .idle → ∃ t, exec (.ep4HardReset i tag) s = .next t ∧ (t.tc i.val).phy = .idle
            ∧ (t.tc i.val).hrSend = true ∧ (t.tc i.val).txResult = 6
            ∧ (t.tc i.val).ep4 = q.ep4.filter (fun e => e.1 ≠ 0) ++ [(1, tag.toNat)] ∧ only t)
        ∧ (q.vconn = true →
          (q.phy = .idle → takes (.ep4CableReset i tag) { q with crSend := true, ep4 := q.ep4 ++ [(2, tag.toNat)] })
          ∧ (q.phy ≠ .idle → ∃ t, exec (.ep4CableReset i tag) s = .next t ∧ (t.tc i.val).phy = .idle
            ∧ (t.tc i.val).crSend = true ∧ (t.tc i.val).txResult = 6
            ∧ (t.tc i.val).ep4 = q.ep4.filter (fun e => e.1 ≠ 0) ++ [(2, tag.toNat)] ∧ only t))
        ∧ (q.vconn = false → replies (.ep4CableReset i tag) 7 (fun x => x = { q with evt := q.evt ||| 0x800 }))
        ∧ (q.phy = .idle → replies (.ep4Cancel i tag) 0 (fun x => x = q))
        ∧ (q.phy = .gcrcWait → replies (.ep4Cancel i tag) 0 (fun x => x = { q with cancelled := true }))
        ∧ (q.phy = .amsWait ∨ q.phy = .pending → replies (.ep4Cancel i tag) 0 (fun x =>
            x.phy = .idle ∧ x.txResult = 4 ∧ x.ep4 = q.ep4.filter (fun e => e.1 ≠ 0)))
        ∧ takes (.ep4BistCarrier i tag) { q with bist := true, ep4 := q.ep4 ++ [(4, tag.toNat)] })))

/-- The states of a Type-C port (R503 to R506, R509 to R513, R534, R535). ATTACHED is entered with its port OFF; leaving it
opens VCONN and issues an OFF request; a completed debounce in REST raises TC_WAKE.

Transmission, Hard Reset and Cable Reset, the source recovery and BIST (R517 to R526, R528, R532, R535), while the PD
block is not held in reset (R132). The result of a BIST carrier that CC_OV ends, and VCONN in a recovery, are the model's
choice (log 90).

PD_MESSAGE_RECEIVED (R515 to R517, R529, R531, R533): a frame with a bad CRC is counted; one of another length, and a
GoodCRC, is discarded; one that finds no room is dropped and counted; a duplicate is counted; any other is delivered by
RX_ROUTE, and clears a SEND with DISCARDED. -/
def Obligations.TypeCStatesAndPd : Prop :=
  (∀ (i : TcId) (s : State), s.tcs.length = 4 → wfStore FEp.reset s.hub.eps = true →
    let q := s.tc i.val
    let n := 12 + i.val
    let enter (v : TcSt) (q : TcPort) : TcPort := { q with st := v, since := s.tick.now, cnt := 0 }
    let event (h : Hay) (k : Nat) : Hay := { h with raised := h.raised ++ [⟨0x41 + n, k, n + 1⟩] }
    let wakes (h : Hay) : Hay := if s.pwr.phase = .rest then event h 0x37 else h
    let done (op r : Nat) (q : TcPort) : List (List W) := (q.ep4.filter (fun e => e.1 = op)).map (fun e =>
      [mkW [(0, 8, e.2), (8, 2, i.val), (12, 3, r)], s.tick.count])
    let only (t : State) (x : TcPort) (told : List (List W)) : Prop :=
      t.tc i.val = x ∧ (∀ j, j ≠ i.val → t.tc j = s.tc j) ∧ (∀ e, e ≠ 20 → t.ep e = s.ep e)
      ∧ (tcRxEp4 s i.val = false → t.ep 20 = { s.ep 20 with wait := (s.ep 20).wait ++ told })
      ∧ (tcRxEp4 s i.val = false → told = [] → t.hub = s.hub ∧ t.plots = s.plots)
    let goes (c : Instr) (x : TcPort) (told : List (List W)) (h : Hay) : Prop :=
      ∃ t, exec c s = .next t ∧ only t x told
        ∧ t = { s with tcs := t.tcs, hay := h, hub := { s.hub with eps := t.hub.eps }, plots := t.plots }
    (q.st = .unattached → tcPattern q ≠ .none →
        goes (.tcAttachWait i) { enter .attachWait q with cnt := 1, pat := tcPattern q } [] s.hay)
    ∧ (q.st ≠ .unattached ∨ tcPattern q = .none → exec (.tcAttachWait i) s = .next s)
    ∧ (q.st = .attachWait → 1200 ≤ q.cnt →
      (q.pat = .audio → goes (.tcAttach i) (enter .audio q) [] (wakes s.hay))
      ∧ (q.pat = .debug → goes (.tcAttach i) (enter .debug q) [] (wakes s.hay))
      ∧ ∀ cc2, q.pat = .sink cc2 →
        ((s.port n).st ≠ .off → exec (.tcAttach i) s = .next s)
        ∧ ((s.port n).st = .off → s.ports.length = 16 →
          let other := if cc2 = true then q.cc1 else q.cc2
          let closes := tcVconnAuto s i.val = true ∧ other = .ra ∧ tcVconnAllow s i.val = true ∧ s.pwr.vconnIn = true
            ∧ q.noGate = false ∧ (s.port n).safe = false
          ∃ t, exec (.tcAttach i) s = .next t
            ∧ only t { enter .attached q with
                orient := cc2, vconn := q.vconn || decide closes, evt := q.evt ||| 1 } []
            ∧ t.port n = { s.port n with tcReqs :=
                if q.want = true ∧ q.noGate = false then (s.port n).tcReqs ++ [true] else (s.port n).tcReqs }
            ∧ (∀ m, m ≠ n → t.port m = s.port m)
            ∧ t = { s with
                tcs := t.tcs, ports := t.ports, hay := wakes s.hay, hub := { s.hub with eps := t.hub.eps }
                plots := t.plots }))
    ∧ (q.st ≠ .attachWait ∨ q.cnt < 1200 ∨ q.pat = .none → exec (.tcAttach i) s = .next s)
    ∧ (q.st = .attachWait → tcPattern q = .none →
        goes (.tcDetach i) { enter .unattached q with rpNow := tcRpLevel s i.val } [] s.hay)
    ∧ (q.st = .audio ∨ q.st = .debug → 120 ≤ q.cnt →
        goes (.tcDetach i) { enter .unattached q with rpNow := tcRpLevel s i.val } [] (wakes s.hay))
    ∧ (q.st = .attached → 120 ≤ q.cnt → s.ports.length = 16 →
      ∃ t, exec (.tcDetach i) s = .next t
        ∧ only t { enter .unattached q with
            vconn := false, hrBusy := false, hrAt := none, hrRemoved := false, offAt := none, sinkNg := false
            rpNow := tcRpLevel s i.val, evt := q.evt ||| 2 } []
        ∧ t.port n = { s.port n with tcReqs := (s.port n).tcReqs ++ [false] } ∧ (∀ m, m ≠ n → t.port m = s.port m)
        ∧ t = { s with
            tcs := t.tcs, ports := t.ports, hay := wakes s.hay, hub := { s.hub with eps := t.hub.eps }, plots := t.plots })
    ∧ (q.st = .attached ∨ q.st = .audio ∨ q.st = .debug → q.cnt < 120 → exec (.tcDetach i) s = .next s)
    ∧ (q.st = .errorRecovery → q.since + 240 ≤ s.tick.now →
        goes (.errorRecoveryEnd i) { enter .unattached q with rpNow := tcRpLevel s i.val } [] s.hay)
    ∧ (q.st = .errorRecovery → s.tick.now < q.since + 240 → exec (.errorRecoveryEnd i) s = .next s)
    ∧ (q.st = .ccFault → 64 ≤ q.cnt → goes (.ccFaultClear i) (enter .errorRecovery q) [] s.hay)
    ∧ (q.st = .ccFault → q.cnt < 64 → exec (.ccFaultClear i) s = .next s)
    ∧ (q.st ≠ .disabled → goes (.ccOv i) { q with
          rpNow := 0, vconn := false, ovReq := true, bist := false, evt := q.evt ||| 0x200
          ep4 := q.ep4.filter (fun e => e.1 ≠ 4) } (done 4 0 q) (event s.hay 0x36))
    ∧ (q.vconn = true → goes (.vconnOc i) { q with vconn := false, hrVconn := false, evt := q.evt ||| 0x80 } []
        (event s.hay 0x35))
    ∧ (q.vconn = false → exec (.vconnOc i) s = .next s)
    ∧ (let ended (r : Nat) (q : TcPort) : TcPort := { q with
          phy := .idle, cancelled := false, txResult := r, evt := q.evt ||| 8, ep4 := q.ep4.filter (fun e => e.1 ≠ 0) }
      let hard (q : TcPort) : TcPort :=
        let recovers := tcHrAuto s i.val = true ∧ q.st = .attached
        { q with
          ids := [0, 0, 0], rxIds := [none, none, none], sinkNg := false, rpNow := if q.sinkNg = true then 3 else q.rpNow
          hrCount := q.hrCount + 1, hrRail := q.hrRail || (s.port n).rail, hrBusy := q.hrBusy || decide recovers
          hrAt := if recovers then some s.tick.now else q.hrAt, hrVconn := if recovers then q.vconn else q.hrVconn
          hrRemoved := if recovers then false else q.hrRemoved, offAt := if recovers then none else q.offAt }
      let soft := isSoftReset (txMessage q)
      let ids := if soft = true then (List.range 3).map (fun k => if k = q.txSop then 0 else q.ids.getD k 0) else q.ids
      (q.phy = .amsWait → goes (.sinktxDelayEnd i) { q with phy := .pending } [] s.hay)
      ∧ (q.phy = .pending → q.st = .attached → q.hrSend = false → q.crSend = false → s.pwr.blkHeld.getLsbD 3 = false →
        goes (.pdTxStart i) { q with
          phy := .gcrcWait, txTries := 1, ids := ids, txId := ids.getD q.txSop 0
          rxIds := if soft = true then
              (List.range 3).map (fun k => if k = q.txSop then none else q.rxIds.getD k none) else q.rxIds } [] s.hay)
      ∧ (s.pwr.blkHeld.getLsbD 3 = true → exec (.pdTxStart i) s = .next s)
      ∧ (q.phy = .gcrcWait →
        (∀ (sop : BitVec 2) (m : BitVec 3), sop.toNat = q.txSop → m.toNat = q.txId → (sop = 0 ∨ q.vconn = true) →
            q.txSop < q.ids.length →
          goes (.pdGoodcrcReceived i sop m) { ended (if q.cancelled = true then 5 else 1) q with
            ids := q.ids.set q.txSop ((q.txId + 1) % 8) } (done 0 (if q.cancelled = true then 5 else 1) q) s.hay)
        ∧ (∀ (sop : BitVec 2) (m : BitVec 3), sop.toNat ≠ q.txSop ∨ m.toNat ≠ q.txId ∨ sop ≠ 0 ∧ q.vconn = false →
          exec (.pdGoodcrcReceived i sop m) s = .next s)
        ∧ (q.cancelled = true → goes (.pdGoodcrcTimeout i) (ended 5 q) (done 0 5 q) s.hay)
        ∧ (q.cancelled = false → q.txTries < 3 →
          goes (.pdGoodcrcTimeout i) { q with txTries := q.txTries + 1, retries := q.retries + 1 } [] s.hay)
        ∧ (q.cancelled = false → 3 ≤ q.txTries →
          goes (.pdGoodcrcTimeout i) { ended 2 q with txFails := q.txFails + 1 } (done 0 2 q) (event s.hay 0x32)))
      ∧ (q.hrSend = true → goes (.hrDone i)
          { hard { q with hrSend := false, evt := q.evt ||| 0x20 } with ep4 := q.ep4.filter (fun e => e.1 ≠ 1) }
          (done 1 0 q) (event s.hay 0x33))
      ∧ (q.st = .attached → s.pwr.blkHeld.getLsbD 3 = false →
        (q.phy = .idle → goes (.hardResetReceived i) (hard { q with evt := q.evt ||| 0x10 }) []
          (wakes (event s.hay 0x33)))
        ∧ (q.phy ≠ .idle → goes (.hardResetReceived i) (hard { ended 6 q with evt := q.evt ||| 8 ||| 0x10 })
          (done 0 6 q) (wakes (event s.hay 0x33))))
      ∧ (q.crSend = true → goes (.crDone i) { q with
          crSend := false, evt := q.evt ||| 0x40, ids := [q.ids.getD 0 0, 0, 0]
          rxIds := [q.rxIds.getD 0 none, none, none], ep4 := q.ep4.filter (fun e => e.1 ≠ 2) } (done 2 0 q) s.hay)
      ∧ (q.bist = true → goes (.bistCarrierEnd i) { q with bist := false, ep4 := q.ep4.filter (fun e => e.1 ≠ 4) }
          (done 4 0 q) s.hay)
      ∧ (q.hrBusy = true → wardenRuns s n = true → s.ports.length = 16 →
        let asks (l : List Bool) (t : State) : Prop :=
          t.port n = { s.port n with tcReqs := (s.port n).tcReqs ++ l } ∧ (∀ m, m ≠ n → t.port m = s.port m)
          ∧ t = { s with tcs := t.tcs, ports := t.ports, hub := { s.hub with eps := t.hub.eps }, plots := t.plots }
        (∀ b, q.hrRemoved = false → q.hrAt = some b → b + 240 ≤ s.tick.now →
          ∃ t, exec (.hrPowerRemove i) s = .next t
            ∧ only t { q with vconn := false, hrRemoved := true, offAt := some s.tick.now } [] ∧ asks [false] t)
        ∧ (∀ b, q.hrAt = some b → s.tick.now < b + 240 → exec (.hrPowerRemove i) s = .next s)
        ∧ (∀ b, q.hrRemoved = true → q.offAt = some b → (s.port n).st = .off →
            max (s.port n).since b + 5600 ≤ s.tick.now →
          ∃ t, exec (.hrPowerRestore i) s = .next t
            ∧ only t { q with
                vconn := q.vconn || (q.hrVconn && vconnAllowed s i.val)
                hrBusy := false, hrAt := none, hrRemoved := false, offAt := none, hrVconn := false
                evt := q.evt ||| 0x400 } []
            ∧ asks (if q.want = true ∧ q.noGate = false then [true] else []) t)
        ∧ (∀ b, q.offAt = some b → s.tick.now < max (s.port n).since b + 5600 →
            exec (.hrPowerRestore i) s = .next s))))
  ∧ (∀ (i : TcId) (sop : BitVec 2) (bytes : List Byte) (s : State), s.tcs.length = 4 →
    wfStore FEp.reset s.hub.eps = true → (s.tc i.val).st = .attached →
    let q := s.tc i.val
    let n := 12 + i.val
    let heard := s.pwr.blkHeld.getLsbD 3 = false ∧ (sop = 0 ∨ sop = 1 ∧ tcSop1En s i.val = true ∧ q.vconn = true
      ∨ sop = 2 ∧ tcSop2En s i.val = true ∧ q.vconn = true)
    let event (h : Hay) (k : Nat) : Hay := { h with raised := h.raised ++ [⟨0x41 + n, k, n + 1⟩] }
    let wakes (h : Hay) : Hay := if s.pwr.phase = .rest then event h 0x37 else h
    let only (t : State) (h : Hay) : Prop := (∀ j, j ≠ i.val → t.tc j = s.tc j) ∧ (∀ e, e ≠ 20 → t.ep e = s.ep e)
      ∧ t = { s with tcs := t.tcs, hay := h, hub := { s.hub with eps := t.hub.eps }, plots := t.plots }
    let goes (ok : Bool) (x : TcPort) (h : Hay) : Prop :=
      ∃ t, exec (.pdMessageReceived i sop ok bytes) s = .next t ∧ t.tc i.val = x ∧ only t h
        ∧ (tcRxEp4 s i.val = false → t.hub = s.hub ∧ t.plots = s.plots)
    let seen := q.rxIds.getD sop.toNat none = some (pdMsgId bytes)
    let full := if tcRxEp4 s i.val = true then epRoom s 4 (List.replicate (2 + (bytes.length + 3) / 4) 0) = false
      else 8 ≤ q.rxCount
    let good := 2 ≤ bytes.length ∧ bytes.length ≤ 30 ∧ isGoodCrc bytes = false
    (¬heard → ∀ ok, exec (.pdMessageReceived i sop ok bytes) s = .next s)
    ∧ (heard → goes false { q with rxCrcErr := q.rxCrcErr + 1 } s.hay)
    ∧ (heard → ¬good → exec (.pdMessageReceived i sop true bytes) s = .next s)
    ∧ (heard → good → full → goes true { q with rxDrops := q.rxDrops + 1, evt := q.evt ||| 0x100 }
        (wakes (if q.evt.getLsbD 8 = true then s.hay else event s.hay 0x34)))
    ∧ (heard → good → ¬full → isSoftReset bytes = false → q.phy = .idle →
      (seen → goes true { q with dups := q.dups + 1 } (wakes s.hay))
      ∧ (¬seen → q.rxIds.length = 3 → tcRxEp4 s i.val = false → q.rxSlots.length = 8 → goes true { q with
          rxIds := q.rxIds.set sop.toNat (some (pdMsgId bytes)), evt := q.evt ||| 4, rxCount := q.rxCount + 1
          rxSlots := q.rxSlots.set ((q.rxHead + q.rxCount) % 8) ⟨sop.toNat, s.tick.count.setWidth 16, bytes⟩ }
          (wakes s.hay))
      ∧ (¬seen → q.rxIds.length = 3 → tcRxEp4 s i.val = true →
        let words := BitVec.ofNat 32 (256 * i.val + 1024 + 65536 * sop.toNat + 262144 * bytes.length) :: s.tick.count
          :: packBytes bytes
        let packets := chopWords (maxPacketWords s 4) (words.length + 1) words
        ∃ t, exec (.pdMessageReceived i sop true bytes) s = .next t
          ∧ t.tc i.val = { q with rxIds := q.rxIds.set sop.toNat (some (pdMsgId bytes)) } ∧ only t (wakes s.hay)
          ∧ t.ep 20 = { s.ep 20 with wait := (s.ep 20).wait ++ packets }))
    ∧ (heard → good → ¬full → q.phy ≠ .idle →
      ∃ t, exec (.pdMessageReceived i sop true bytes) s = .next t
        ∧ (t.tc i.val).phy = .idle ∧ (t.tc i.val).txResult = (if q.cancelled = true then 5 else 3)
        ∧ (t.tc i.val).ep4 = q.ep4.filter (fun e => e.1 ≠ 0)
        ∧ (isSoftReset bytes = false → (t.tc i.val).ids = q.ids) ∧ only t (wakes s.hay)))
end

