-- ==== Sys2Proof/Laws/State.lean ====
section
/-!
SUPPORT. One lemma per modifier of the state and per field: what the modifier makes of the field. No later proof
unfolds a record update.
-/

namespace Sys2Proof.Machine

variable (s : State)


section
variable (f : Tick → Tick)
@[simp] theorem State.onTick_tick : (s.onTick f).tick = f s.tick := (rfl)
@[simp] theorem State.onTick_plots : (s.onTick f).plots = s.plots := (rfl)
@[simp] theorem State.onTick_field : (s.onTick f).field = s.field := (rfl)
@[simp] theorem State.onTick_pwr : (s.onTick f).pwr = s.pwr := (rfl)
@[simp] theorem State.onTick_stby : (s.onTick f).stby = s.stby := (rfl)
@[simp] theorem State.onTick_tally : (s.onTick f).tally = s.tally := (rfl)
@[simp] theorem State.onTick_tWin : (s.onTick f).tWin = s.tWin := (rfl)
@[simp] theorem State.onTick_uWin : (s.onTick f).uWin = s.uWin := (rfl)
@[simp] theorem State.onTick_usb : (s.onTick f).usb = s.usb := (rfl)
@[simp] theorem State.onTick_cfg : (s.onTick f).cfg = s.cfg := (rfl)
@[simp] theorem State.onTick_nvm : (s.onTick f).nvm = s.nvm := (rfl)
@[simp] theorem State.onTick_mem : (s.onTick f).mem = s.mem := (rfl)
@[simp] theorem State.onTick_sluices : (s.onTick f).sluices = s.sluices := (rfl)
@[simp] theorem State.onTick_hub : (s.onTick f).hub = s.hub := (rfl)
@[simp] theorem State.onTick_culvs : (s.onTick f).culvs = s.culvs := (rfl)
@[simp] theorem State.onTick_tand : (s.onTick f).tand = s.tand := (rfl)
@[simp] theorem State.onTick_cads : (s.onTick f).cads = s.cads := (rfl)
@[simp] theorem State.onTick_ports : (s.onTick f).ports = s.ports := (rfl)
@[simp] theorem State.onTick_adc : (s.onTick f).adc = s.adc := (rfl)
@[simp] theorem State.onTick_tcs : (s.onTick f).tcs = s.tcs := (rfl)
@[simp] theorem State.onTick_hay : (s.onTick f).hay = s.hay := (rfl)
@[simp] theorem State.onTick_tap : (s.onTick f).tap = s.tap := (rfl)
@[simp] theorem State.onTick_free : (s.onTick f).free = s.free := (rfl)
@[simp] theorem State.onTick_pending : (s.onTick f).pending = s.pending := (rfl)
end

section
variable (f : List Plot → List Plot)
@[simp] theorem State.onPlots_tick : (s.onPlots f).tick = s.tick := (rfl)
@[simp] theorem State.onPlots_plots : (s.onPlots f).plots = f s.plots := (rfl)
@[simp] theorem State.onPlots_field : (s.onPlots f).field = s.field := (rfl)
@[simp] theorem State.onPlots_pwr : (s.onPlots f).pwr = s.pwr := (rfl)
@[simp] theorem State.onPlots_stby : (s.onPlots f).stby = s.stby := (rfl)
@[simp] theorem State.onPlots_tally : (s.onPlots f).tally = s.tally := (rfl)
@[simp] theorem State.onPlots_tWin : (s.onPlots f).tWin = s.tWin := (rfl)
@[simp] theorem State.onPlots_uWin : (s.onPlots f).uWin = s.uWin := (rfl)
@[simp] theorem State.onPlots_usb : (s.onPlots f).usb = s.usb := (rfl)
@[simp] theorem State.onPlots_cfg : (s.onPlots f).cfg = s.cfg := (rfl)
@[simp] theorem State.onPlots_nvm : (s.onPlots f).nvm = s.nvm := (rfl)
@[simp] theorem State.onPlots_mem : (s.onPlots f).mem = s.mem := (rfl)
@[simp] theorem State.onPlots_sluices : (s.onPlots f).sluices = s.sluices := (rfl)
@[simp] theorem State.onPlots_hub : (s.onPlots f).hub = s.hub := (rfl)
@[simp] theorem State.onPlots_culvs : (s.onPlots f).culvs = s.culvs := (rfl)
@[simp] theorem State.onPlots_tand : (s.onPlots f).tand = s.tand := (rfl)
@[simp] theorem State.onPlots_cads : (s.onPlots f).cads = s.cads := (rfl)
@[simp] theorem State.onPlots_ports : (s.onPlots f).ports = s.ports := (rfl)
@[simp] theorem State.onPlots_adc : (s.onPlots f).adc = s.adc := (rfl)
@[simp] theorem State.onPlots_tcs : (s.onPlots f).tcs = s.tcs := (rfl)
@[simp] theorem State.onPlots_hay : (s.onPlots f).hay = s.hay := (rfl)
@[simp] theorem State.onPlots_tap : (s.onPlots f).tap = s.tap := (rfl)
@[simp] theorem State.onPlots_free : (s.onPlots f).free = s.free := (rfl)
@[simp] theorem State.onPlots_pending : (s.onPlots f).pending = s.pending := (rfl)
end

section
variable (f : Field → Field)
@[simp] theorem State.onField_tick : (s.onField f).tick = s.tick := (rfl)
@[simp] theorem State.onField_plots : (s.onField f).plots = s.plots := (rfl)
@[simp] theorem State.onField_field : (s.onField f).field = f s.field := (rfl)
@[simp] theorem State.onField_pwr : (s.onField f).pwr = s.pwr := (rfl)
@[simp] theorem State.onField_stby : (s.onField f).stby = s.stby := (rfl)
@[simp] theorem State.onField_tally : (s.onField f).tally = s.tally := (rfl)
@[simp] theorem State.onField_tWin : (s.onField f).tWin = s.tWin := (rfl)
@[simp] theorem State.onField_uWin : (s.onField f).uWin = s.uWin := (rfl)
@[simp] theorem State.onField_usb : (s.onField f).usb = s.usb := (rfl)
@[simp] theorem State.onField_cfg : (s.onField f).cfg = s.cfg := (rfl)
@[simp] theorem State.onField_nvm : (s.onField f).nvm = s.nvm := (rfl)
@[simp] theorem State.onField_mem : (s.onField f).mem = s.mem := (rfl)
@[simp] theorem State.onField_sluices : (s.onField f).sluices = s.sluices := (rfl)
@[simp] theorem State.onField_hub : (s.onField f).hub = s.hub := (rfl)
@[simp] theorem State.onField_culvs : (s.onField f).culvs = s.culvs := (rfl)
@[simp] theorem State.onField_tand : (s.onField f).tand = s.tand := (rfl)
@[simp] theorem State.onField_cads : (s.onField f).cads = s.cads := (rfl)
@[simp] theorem State.onField_ports : (s.onField f).ports = s.ports := (rfl)
@[simp] theorem State.onField_adc : (s.onField f).adc = s.adc := (rfl)
@[simp] theorem State.onField_tcs : (s.onField f).tcs = s.tcs := (rfl)
@[simp] theorem State.onField_hay : (s.onField f).hay = s.hay := (rfl)
@[simp] theorem State.onField_tap : (s.onField f).tap = s.tap := (rfl)
@[simp] theorem State.onField_free : (s.onField f).free = s.free := (rfl)
@[simp] theorem State.onField_pending : (s.onField f).pending = s.pending := (rfl)
end

section
variable (f : Pwr → Pwr)
@[simp] theorem State.onPwr_tick : (s.onPwr f).tick = s.tick := (rfl)
@[simp] theorem State.onPwr_plots : (s.onPwr f).plots = s.plots := (rfl)
@[simp] theorem State.onPwr_field : (s.onPwr f).field = s.field := (rfl)
@[simp] theorem State.onPwr_pwr : (s.onPwr f).pwr = f s.pwr := (rfl)
@[simp] theorem State.onPwr_stby : (s.onPwr f).stby = s.stby := (rfl)
@[simp] theorem State.onPwr_tally : (s.onPwr f).tally = s.tally := (rfl)
@[simp] theorem State.onPwr_tWin : (s.onPwr f).tWin = s.tWin := (rfl)
@[simp] theorem State.onPwr_uWin : (s.onPwr f).uWin = s.uWin := (rfl)
@[simp] theorem State.onPwr_usb : (s.onPwr f).usb = s.usb := (rfl)
@[simp] theorem State.onPwr_cfg : (s.onPwr f).cfg = s.cfg := (rfl)
@[simp] theorem State.onPwr_nvm : (s.onPwr f).nvm = s.nvm := (rfl)
@[simp] theorem State.onPwr_mem : (s.onPwr f).mem = s.mem := (rfl)
@[simp] theorem State.onPwr_sluices : (s.onPwr f).sluices = s.sluices := (rfl)
@[simp] theorem State.onPwr_hub : (s.onPwr f).hub = s.hub := (rfl)
@[simp] theorem State.onPwr_culvs : (s.onPwr f).culvs = s.culvs := (rfl)
@[simp] theorem State.onPwr_tand : (s.onPwr f).tand = s.tand := (rfl)
@[simp] theorem State.onPwr_cads : (s.onPwr f).cads = s.cads := (rfl)
@[simp] theorem State.onPwr_ports : (s.onPwr f).ports = s.ports := (rfl)
@[simp] theorem State.onPwr_adc : (s.onPwr f).adc = s.adc := (rfl)
@[simp] theorem State.onPwr_tcs : (s.onPwr f).tcs = s.tcs := (rfl)
@[simp] theorem State.onPwr_hay : (s.onPwr f).hay = s.hay := (rfl)
@[simp] theorem State.onPwr_tap : (s.onPwr f).tap = s.tap := (rfl)
@[simp] theorem State.onPwr_free : (s.onPwr f).free = s.free := (rfl)
@[simp] theorem State.onPwr_pending : (s.onPwr f).pending = s.pending := (rfl)
end

section
variable (f : Stby → Stby)
@[simp] theorem State.onStby_tick : (s.onStby f).tick = s.tick := (rfl)
@[simp] theorem State.onStby_plots : (s.onStby f).plots = s.plots := (rfl)
@[simp] theorem State.onStby_field : (s.onStby f).field = s.field := (rfl)
@[simp] theorem State.onStby_pwr : (s.onStby f).pwr = s.pwr := (rfl)
@[simp] theorem State.onStby_stby : (s.onStby f).stby = f s.stby := (rfl)
@[simp] theorem State.onStby_tally : (s.onStby f).tally = s.tally := (rfl)
@[simp] theorem State.onStby_tWin : (s.onStby f).tWin = s.tWin := (rfl)
@[simp] theorem State.onStby_uWin : (s.onStby f).uWin = s.uWin := (rfl)
@[simp] theorem State.onStby_usb : (s.onStby f).usb = s.usb := (rfl)
@[simp] theorem State.onStby_cfg : (s.onStby f).cfg = s.cfg := (rfl)
@[simp] theorem State.onStby_nvm : (s.onStby f).nvm = s.nvm := (rfl)
@[simp] theorem State.onStby_mem : (s.onStby f).mem = s.mem := (rfl)
@[simp] theorem State.onStby_sluices : (s.onStby f).sluices = s.sluices := (rfl)
@[simp] theorem State.onStby_hub : (s.onStby f).hub = s.hub := (rfl)
@[simp] theorem State.onStby_culvs : (s.onStby f).culvs = s.culvs := (rfl)
@[simp] theorem State.onStby_tand : (s.onStby f).tand = s.tand := (rfl)
@[simp] theorem State.onStby_cads : (s.onStby f).cads = s.cads := (rfl)
@[simp] theorem State.onStby_ports : (s.onStby f).ports = s.ports := (rfl)
@[simp] theorem State.onStby_adc : (s.onStby f).adc = s.adc := (rfl)
@[simp] theorem State.onStby_tcs : (s.onStby f).tcs = s.tcs := (rfl)
@[simp] theorem State.onStby_hay : (s.onStby f).hay = s.hay := (rfl)
@[simp] theorem State.onStby_tap : (s.onStby f).tap = s.tap := (rfl)
@[simp] theorem State.onStby_free : (s.onStby f).free = s.free := (rfl)
@[simp] theorem State.onStby_pending : (s.onStby f).pending = s.pending := (rfl)
end

section
variable (f : Tally → Tally)
@[simp] theorem State.onTally_tick : (s.onTally f).tick = s.tick := (rfl)
@[simp] theorem State.onTally_plots : (s.onTally f).plots = s.plots := (rfl)
@[simp] theorem State.onTally_field : (s.onTally f).field = s.field := (rfl)
@[simp] theorem State.onTally_pwr : (s.onTally f).pwr = s.pwr := (rfl)
@[simp] theorem State.onTally_stby : (s.onTally f).stby = s.stby := (rfl)
@[simp] theorem State.onTally_tally : (s.onTally f).tally = f s.tally := (rfl)
@[simp] theorem State.onTally_tWin : (s.onTally f).tWin = s.tWin := (rfl)
@[simp] theorem State.onTally_uWin : (s.onTally f).uWin = s.uWin := (rfl)
@[simp] theorem State.onTally_usb : (s.onTally f).usb = s.usb := (rfl)
@[simp] theorem State.onTally_cfg : (s.onTally f).cfg = s.cfg := (rfl)
@[simp] theorem State.onTally_nvm : (s.onTally f).nvm = s.nvm := (rfl)
@[simp] theorem State.onTally_mem : (s.onTally f).mem = s.mem := (rfl)
@[simp] theorem State.onTally_sluices : (s.onTally f).sluices = s.sluices := (rfl)
@[simp] theorem State.onTally_hub : (s.onTally f).hub = s.hub := (rfl)
@[simp] theorem State.onTally_culvs : (s.onTally f).culvs = s.culvs := (rfl)
@[simp] theorem State.onTally_tand : (s.onTally f).tand = s.tand := (rfl)
@[simp] theorem State.onTally_cads : (s.onTally f).cads = s.cads := (rfl)
@[simp] theorem State.onTally_ports : (s.onTally f).ports = s.ports := (rfl)
@[simp] theorem State.onTally_adc : (s.onTally f).adc = s.adc := (rfl)
@[simp] theorem State.onTally_tcs : (s.onTally f).tcs = s.tcs := (rfl)
@[simp] theorem State.onTally_hay : (s.onTally f).hay = s.hay := (rfl)
@[simp] theorem State.onTally_tap : (s.onTally f).tap = s.tap := (rfl)
@[simp] theorem State.onTally_free : (s.onTally f).free = s.free := (rfl)
@[simp] theorem State.onTally_pending : (s.onTally f).pending = s.pending := (rfl)
end

section
variable (f : Win → Win)
@[simp] theorem State.onTWin_tick : (s.onTWin f).tick = s.tick := (rfl)
@[simp] theorem State.onTWin_plots : (s.onTWin f).plots = s.plots := (rfl)
@[simp] theorem State.onTWin_field : (s.onTWin f).field = s.field := (rfl)
@[simp] theorem State.onTWin_pwr : (s.onTWin f).pwr = s.pwr := (rfl)
@[simp] theorem State.onTWin_stby : (s.onTWin f).stby = s.stby := (rfl)
@[simp] theorem State.onTWin_tally : (s.onTWin f).tally = s.tally := (rfl)
@[simp] theorem State.onTWin_tWin : (s.onTWin f).tWin = f s.tWin := (rfl)
@[simp] theorem State.onTWin_uWin : (s.onTWin f).uWin = s.uWin := (rfl)
@[simp] theorem State.onTWin_usb : (s.onTWin f).usb = s.usb := (rfl)
@[simp] theorem State.onTWin_cfg : (s.onTWin f).cfg = s.cfg := (rfl)
@[simp] theorem State.onTWin_nvm : (s.onTWin f).nvm = s.nvm := (rfl)
@[simp] theorem State.onTWin_mem : (s.onTWin f).mem = s.mem := (rfl)
@[simp] theorem State.onTWin_sluices : (s.onTWin f).sluices = s.sluices := (rfl)
@[simp] theorem State.onTWin_hub : (s.onTWin f).hub = s.hub := (rfl)
@[simp] theorem State.onTWin_culvs : (s.onTWin f).culvs = s.culvs := (rfl)
@[simp] theorem State.onTWin_tand : (s.onTWin f).tand = s.tand := (rfl)
@[simp] theorem State.onTWin_cads : (s.onTWin f).cads = s.cads := (rfl)
@[simp] theorem State.onTWin_ports : (s.onTWin f).ports = s.ports := (rfl)
@[simp] theorem State.onTWin_adc : (s.onTWin f).adc = s.adc := (rfl)
@[simp] theorem State.onTWin_tcs : (s.onTWin f).tcs = s.tcs := (rfl)
@[simp] theorem State.onTWin_hay : (s.onTWin f).hay = s.hay := (rfl)
@[simp] theorem State.onTWin_tap : (s.onTWin f).tap = s.tap := (rfl)
@[simp] theorem State.onTWin_free : (s.onTWin f).free = s.free := (rfl)
@[simp] theorem State.onTWin_pending : (s.onTWin f).pending = s.pending := (rfl)
end

section
variable (f : Win → Win)
@[simp] theorem State.onUWin_tick : (s.onUWin f).tick = s.tick := (rfl)
@[simp] theorem State.onUWin_plots : (s.onUWin f).plots = s.plots := (rfl)
@[simp] theorem State.onUWin_field : (s.onUWin f).field = s.field := (rfl)
@[simp] theorem State.onUWin_pwr : (s.onUWin f).pwr = s.pwr := (rfl)
@[simp] theorem State.onUWin_stby : (s.onUWin f).stby = s.stby := (rfl)
@[simp] theorem State.onUWin_tally : (s.onUWin f).tally = s.tally := (rfl)
@[simp] theorem State.onUWin_tWin : (s.onUWin f).tWin = s.tWin := (rfl)
@[simp] theorem State.onUWin_uWin : (s.onUWin f).uWin = f s.uWin := (rfl)
@[simp] theorem State.onUWin_usb : (s.onUWin f).usb = s.usb := (rfl)
@[simp] theorem State.onUWin_cfg : (s.onUWin f).cfg = s.cfg := (rfl)
@[simp] theorem State.onUWin_nvm : (s.onUWin f).nvm = s.nvm := (rfl)
@[simp] theorem State.onUWin_mem : (s.onUWin f).mem = s.mem := (rfl)
@[simp] theorem State.onUWin_sluices : (s.onUWin f).sluices = s.sluices := (rfl)
@[simp] theorem State.onUWin_hub : (s.onUWin f).hub = s.hub := (rfl)
@[simp] theorem State.onUWin_culvs : (s.onUWin f).culvs = s.culvs := (rfl)
@[simp] theorem State.onUWin_tand : (s.onUWin f).tand = s.tand := (rfl)
@[simp] theorem State.onUWin_cads : (s.onUWin f).cads = s.cads := (rfl)
@[simp] theorem State.onUWin_ports : (s.onUWin f).ports = s.ports := (rfl)
@[simp] theorem State.onUWin_adc : (s.onUWin f).adc = s.adc := (rfl)
@[simp] theorem State.onUWin_tcs : (s.onUWin f).tcs = s.tcs := (rfl)
@[simp] theorem State.onUWin_hay : (s.onUWin f).hay = s.hay := (rfl)
@[simp] theorem State.onUWin_tap : (s.onUWin f).tap = s.tap := (rfl)
@[simp] theorem State.onUWin_free : (s.onUWin f).free = s.free := (rfl)
@[simp] theorem State.onUWin_pending : (s.onUWin f).pending = s.pending := (rfl)
end

section
variable (f : UsbAcc → UsbAcc)
@[simp] theorem State.onUsb_tick : (s.onUsb f).tick = s.tick := (rfl)
@[simp] theorem State.onUsb_plots : (s.onUsb f).plots = s.plots := (rfl)
@[simp] theorem State.onUsb_field : (s.onUsb f).field = s.field := (rfl)
@[simp] theorem State.onUsb_pwr : (s.onUsb f).pwr = s.pwr := (rfl)
@[simp] theorem State.onUsb_stby : (s.onUsb f).stby = s.stby := (rfl)
@[simp] theorem State.onUsb_tally : (s.onUsb f).tally = s.tally := (rfl)
@[simp] theorem State.onUsb_tWin : (s.onUsb f).tWin = s.tWin := (rfl)
@[simp] theorem State.onUsb_uWin : (s.onUsb f).uWin = s.uWin := (rfl)
@[simp] theorem State.onUsb_usb : (s.onUsb f).usb = f s.usb := (rfl)
@[simp] theorem State.onUsb_cfg : (s.onUsb f).cfg = s.cfg := (rfl)
@[simp] theorem State.onUsb_nvm : (s.onUsb f).nvm = s.nvm := (rfl)
@[simp] theorem State.onUsb_mem : (s.onUsb f).mem = s.mem := (rfl)
@[simp] theorem State.onUsb_sluices : (s.onUsb f).sluices = s.sluices := (rfl)
@[simp] theorem State.onUsb_hub : (s.onUsb f).hub = s.hub := (rfl)
@[simp] theorem State.onUsb_culvs : (s.onUsb f).culvs = s.culvs := (rfl)
@[simp] theorem State.onUsb_tand : (s.onUsb f).tand = s.tand := (rfl)
@[simp] theorem State.onUsb_cads : (s.onUsb f).cads = s.cads := (rfl)
@[simp] theorem State.onUsb_ports : (s.onUsb f).ports = s.ports := (rfl)
@[simp] theorem State.onUsb_adc : (s.onUsb f).adc = s.adc := (rfl)
@[simp] theorem State.onUsb_tcs : (s.onUsb f).tcs = s.tcs := (rfl)
@[simp] theorem State.onUsb_hay : (s.onUsb f).hay = s.hay := (rfl)
@[simp] theorem State.onUsb_tap : (s.onUsb f).tap = s.tap := (rfl)
@[simp] theorem State.onUsb_free : (s.onUsb f).free = s.free := (rfl)
@[simp] theorem State.onUsb_pending : (s.onUsb f).pending = s.pending := (rfl)
end

section
variable (f : Cfg → Cfg)
@[simp] theorem State.onCfg_tick : (s.onCfg f).tick = s.tick := (rfl)
@[simp] theorem State.onCfg_plots : (s.onCfg f).plots = s.plots := (rfl)
@[simp] theorem State.onCfg_field : (s.onCfg f).field = s.field := (rfl)
@[simp] theorem State.onCfg_pwr : (s.onCfg f).pwr = s.pwr := (rfl)
@[simp] theorem State.onCfg_stby : (s.onCfg f).stby = s.stby := (rfl)
@[simp] theorem State.onCfg_tally : (s.onCfg f).tally = s.tally := (rfl)
@[simp] theorem State.onCfg_tWin : (s.onCfg f).tWin = s.tWin := (rfl)
@[simp] theorem State.onCfg_uWin : (s.onCfg f).uWin = s.uWin := (rfl)
@[simp] theorem State.onCfg_usb : (s.onCfg f).usb = s.usb := (rfl)
@[simp] theorem State.onCfg_cfg : (s.onCfg f).cfg = f s.cfg := (rfl)
@[simp] theorem State.onCfg_nvm : (s.onCfg f).nvm = s.nvm := (rfl)
@[simp] theorem State.onCfg_mem : (s.onCfg f).mem = s.mem := (rfl)
@[simp] theorem State.onCfg_sluices : (s.onCfg f).sluices = s.sluices := (rfl)
@[simp] theorem State.onCfg_hub : (s.onCfg f).hub = s.hub := (rfl)
@[simp] theorem State.onCfg_culvs : (s.onCfg f).culvs = s.culvs := (rfl)
@[simp] theorem State.onCfg_tand : (s.onCfg f).tand = s.tand := (rfl)
@[simp] theorem State.onCfg_cads : (s.onCfg f).cads = s.cads := (rfl)
@[simp] theorem State.onCfg_ports : (s.onCfg f).ports = s.ports := (rfl)
@[simp] theorem State.onCfg_adc : (s.onCfg f).adc = s.adc := (rfl)
@[simp] theorem State.onCfg_tcs : (s.onCfg f).tcs = s.tcs := (rfl)
@[simp] theorem State.onCfg_hay : (s.onCfg f).hay = s.hay := (rfl)
@[simp] theorem State.onCfg_tap : (s.onCfg f).tap = s.tap := (rfl)
@[simp] theorem State.onCfg_free : (s.onCfg f).free = s.free := (rfl)
@[simp] theorem State.onCfg_pending : (s.onCfg f).pending = s.pending := (rfl)
end

section
variable (f : Nvm → Nvm)
@[simp] theorem State.onNvm_tick : (s.onNvm f).tick = s.tick := (rfl)
@[simp] theorem State.onNvm_plots : (s.onNvm f).plots = s.plots := (rfl)
@[simp] theorem State.onNvm_field : (s.onNvm f).field = s.field := (rfl)
@[simp] theorem State.onNvm_pwr : (s.onNvm f).pwr = s.pwr := (rfl)
@[simp] theorem State.onNvm_stby : (s.onNvm f).stby = s.stby := (rfl)
@[simp] theorem State.onNvm_tally : (s.onNvm f).tally = s.tally := (rfl)
@[simp] theorem State.onNvm_tWin : (s.onNvm f).tWin = s.tWin := (rfl)
@[simp] theorem State.onNvm_uWin : (s.onNvm f).uWin = s.uWin := (rfl)
@[simp] theorem State.onNvm_usb : (s.onNvm f).usb = s.usb := (rfl)
@[simp] theorem State.onNvm_cfg : (s.onNvm f).cfg = s.cfg := (rfl)
@[simp] theorem State.onNvm_nvm : (s.onNvm f).nvm = f s.nvm := (rfl)
@[simp] theorem State.onNvm_mem : (s.onNvm f).mem = s.mem := (rfl)
@[simp] theorem State.onNvm_sluices : (s.onNvm f).sluices = s.sluices := (rfl)
@[simp] theorem State.onNvm_hub : (s.onNvm f).hub = s.hub := (rfl)
@[simp] theorem State.onNvm_culvs : (s.onNvm f).culvs = s.culvs := (rfl)
@[simp] theorem State.onNvm_tand : (s.onNvm f).tand = s.tand := (rfl)
@[simp] theorem State.onNvm_cads : (s.onNvm f).cads = s.cads := (rfl)
@[simp] theorem State.onNvm_ports : (s.onNvm f).ports = s.ports := (rfl)
@[simp] theorem State.onNvm_adc : (s.onNvm f).adc = s.adc := (rfl)
@[simp] theorem State.onNvm_tcs : (s.onNvm f).tcs = s.tcs := (rfl)
@[simp] theorem State.onNvm_hay : (s.onNvm f).hay = s.hay := (rfl)
@[simp] theorem State.onNvm_tap : (s.onNvm f).tap = s.tap := (rfl)
@[simp] theorem State.onNvm_free : (s.onNvm f).free = s.free := (rfl)
@[simp] theorem State.onNvm_pending : (s.onNvm f).pending = s.pending := (rfl)
end

section
variable (f : Mem → Mem)
@[simp] theorem State.onMem_tick : (s.onMem f).tick = s.tick := (rfl)
@[simp] theorem State.onMem_plots : (s.onMem f).plots = s.plots := (rfl)
@[simp] theorem State.onMem_field : (s.onMem f).field = s.field := (rfl)
@[simp] theorem State.onMem_pwr : (s.onMem f).pwr = s.pwr := (rfl)
@[simp] theorem State.onMem_stby : (s.onMem f).stby = s.stby := (rfl)
@[simp] theorem State.onMem_tally : (s.onMem f).tally = s.tally := (rfl)
@[simp] theorem State.onMem_tWin : (s.onMem f).tWin = s.tWin := (rfl)
@[simp] theorem State.onMem_uWin : (s.onMem f).uWin = s.uWin := (rfl)
@[simp] theorem State.onMem_usb : (s.onMem f).usb = s.usb := (rfl)
@[simp] theorem State.onMem_cfg : (s.onMem f).cfg = s.cfg := (rfl)
@[simp] theorem State.onMem_nvm : (s.onMem f).nvm = s.nvm := (rfl)
@[simp] theorem State.onMem_mem : (s.onMem f).mem = f s.mem := (rfl)
@[simp] theorem State.onMem_sluices : (s.onMem f).sluices = s.sluices := (rfl)
@[simp] theorem State.onMem_hub : (s.onMem f).hub = s.hub := (rfl)
@[simp] theorem State.onMem_culvs : (s.onMem f).culvs = s.culvs := (rfl)
@[simp] theorem State.onMem_tand : (s.onMem f).tand = s.tand := (rfl)
@[simp] theorem State.onMem_cads : (s.onMem f).cads = s.cads := (rfl)
@[simp] theorem State.onMem_ports : (s.onMem f).ports = s.ports := (rfl)
@[simp] theorem State.onMem_adc : (s.onMem f).adc = s.adc := (rfl)
@[simp] theorem State.onMem_tcs : (s.onMem f).tcs = s.tcs := (rfl)
@[simp] theorem State.onMem_hay : (s.onMem f).hay = s.hay := (rfl)
@[simp] theorem State.onMem_tap : (s.onMem f).tap = s.tap := (rfl)
@[simp] theorem State.onMem_free : (s.onMem f).free = s.free := (rfl)
@[simp] theorem State.onMem_pending : (s.onMem f).pending = s.pending := (rfl)
end

section
variable (f : Store Sluice → Store Sluice)
@[simp] theorem State.onSluices_tick : (s.onSluices f).tick = s.tick := (rfl)
@[simp] theorem State.onSluices_plots : (s.onSluices f).plots = s.plots := (rfl)
@[simp] theorem State.onSluices_field : (s.onSluices f).field = s.field := (rfl)
@[simp] theorem State.onSluices_pwr : (s.onSluices f).pwr = s.pwr := (rfl)
@[simp] theorem State.onSluices_stby : (s.onSluices f).stby = s.stby := (rfl)
@[simp] theorem State.onSluices_tally : (s.onSluices f).tally = s.tally := (rfl)
@[simp] theorem State.onSluices_tWin : (s.onSluices f).tWin = s.tWin := (rfl)
@[simp] theorem State.onSluices_uWin : (s.onSluices f).uWin = s.uWin := (rfl)
@[simp] theorem State.onSluices_usb : (s.onSluices f).usb = s.usb := (rfl)
@[simp] theorem State.onSluices_cfg : (s.onSluices f).cfg = s.cfg := (rfl)
@[simp] theorem State.onSluices_nvm : (s.onSluices f).nvm = s.nvm := (rfl)
@[simp] theorem State.onSluices_mem : (s.onSluices f).mem = s.mem := (rfl)
@[simp] theorem State.onSluices_sluices : (s.onSluices f).sluices = f s.sluices := (rfl)
@[simp] theorem State.onSluices_hub : (s.onSluices f).hub = s.hub := (rfl)
@[simp] theorem State.onSluices_culvs : (s.onSluices f).culvs = s.culvs := (rfl)
@[simp] theorem State.onSluices_tand : (s.onSluices f).tand = s.tand := (rfl)
@[simp] theorem State.onSluices_cads : (s.onSluices f).cads = s.cads := (rfl)
@[simp] theorem State.onSluices_ports : (s.onSluices f).ports = s.ports := (rfl)
@[simp] theorem State.onSluices_adc : (s.onSluices f).adc = s.adc := (rfl)
@[simp] theorem State.onSluices_tcs : (s.onSluices f).tcs = s.tcs := (rfl)
@[simp] theorem State.onSluices_hay : (s.onSluices f).hay = s.hay := (rfl)
@[simp] theorem State.onSluices_tap : (s.onSluices f).tap = s.tap := (rfl)
@[simp] theorem State.onSluices_free : (s.onSluices f).free = s.free := (rfl)
@[simp] theorem State.onSluices_pending : (s.onSluices f).pending = s.pending := (rfl)
end

section
variable (f : Hub → Hub)
@[simp] theorem State.onHub_tick : (s.onHub f).tick = s.tick := (rfl)
@[simp] theorem State.onHub_plots : (s.onHub f).plots = s.plots := (rfl)
@[simp] theorem State.onHub_field : (s.onHub f).field = s.field := (rfl)
@[simp] theorem State.onHub_pwr : (s.onHub f).pwr = s.pwr := (rfl)
@[simp] theorem State.onHub_stby : (s.onHub f).stby = s.stby := (rfl)
@[simp] theorem State.onHub_tally : (s.onHub f).tally = s.tally := (rfl)
@[simp] theorem State.onHub_tWin : (s.onHub f).tWin = s.tWin := (rfl)
@[simp] theorem State.onHub_uWin : (s.onHub f).uWin = s.uWin := (rfl)
@[simp] theorem State.onHub_usb : (s.onHub f).usb = s.usb := (rfl)
@[simp] theorem State.onHub_cfg : (s.onHub f).cfg = s.cfg := (rfl)
@[simp] theorem State.onHub_nvm : (s.onHub f).nvm = s.nvm := (rfl)
@[simp] theorem State.onHub_mem : (s.onHub f).mem = s.mem := (rfl)
@[simp] theorem State.onHub_sluices : (s.onHub f).sluices = s.sluices := (rfl)
@[simp] theorem State.onHub_hub : (s.onHub f).hub = f s.hub := (rfl)
@[simp] theorem State.onHub_culvs : (s.onHub f).culvs = s.culvs := (rfl)
@[simp] theorem State.onHub_tand : (s.onHub f).tand = s.tand := (rfl)
@[simp] theorem State.onHub_cads : (s.onHub f).cads = s.cads := (rfl)
@[simp] theorem State.onHub_ports : (s.onHub f).ports = s.ports := (rfl)
@[simp] theorem State.onHub_adc : (s.onHub f).adc = s.adc := (rfl)
@[simp] theorem State.onHub_tcs : (s.onHub f).tcs = s.tcs := (rfl)
@[simp] theorem State.onHub_hay : (s.onHub f).hay = s.hay := (rfl)
@[simp] theorem State.onHub_tap : (s.onHub f).tap = s.tap := (rfl)
@[simp] theorem State.onHub_free : (s.onHub f).free = s.free := (rfl)
@[simp] theorem State.onHub_pending : (s.onHub f).pending = s.pending := (rfl)
end

section
variable (f : Culvs → Culvs)
@[simp] theorem State.onCulvs_tick : (s.onCulvs f).tick = s.tick := (rfl)
@[simp] theorem State.onCulvs_plots : (s.onCulvs f).plots = s.plots := (rfl)
@[simp] theorem State.onCulvs_field : (s.onCulvs f).field = s.field := (rfl)
@[simp] theorem State.onCulvs_pwr : (s.onCulvs f).pwr = s.pwr := (rfl)
@[simp] theorem State.onCulvs_stby : (s.onCulvs f).stby = s.stby := (rfl)
@[simp] theorem State.onCulvs_tally : (s.onCulvs f).tally = s.tally := (rfl)
@[simp] theorem State.onCulvs_tWin : (s.onCulvs f).tWin = s.tWin := (rfl)
@[simp] theorem State.onCulvs_uWin : (s.onCulvs f).uWin = s.uWin := (rfl)
@[simp] theorem State.onCulvs_usb : (s.onCulvs f).usb = s.usb := (rfl)
@[simp] theorem State.onCulvs_cfg : (s.onCulvs f).cfg = s.cfg := (rfl)
@[simp] theorem State.onCulvs_nvm : (s.onCulvs f).nvm = s.nvm := (rfl)
@[simp] theorem State.onCulvs_mem : (s.onCulvs f).mem = s.mem := (rfl)
@[simp] theorem State.onCulvs_sluices : (s.onCulvs f).sluices = s.sluices := (rfl)
@[simp] theorem State.onCulvs_hub : (s.onCulvs f).hub = s.hub := (rfl)
@[simp] theorem State.onCulvs_culvs : (s.onCulvs f).culvs = f s.culvs := (rfl)
@[simp] theorem State.onCulvs_tand : (s.onCulvs f).tand = s.tand := (rfl)
@[simp] theorem State.onCulvs_cads : (s.onCulvs f).cads = s.cads := (rfl)
@[simp] theorem State.onCulvs_ports : (s.onCulvs f).ports = s.ports := (rfl)
@[simp] theorem State.onCulvs_adc : (s.onCulvs f).adc = s.adc := (rfl)
@[simp] theorem State.onCulvs_tcs : (s.onCulvs f).tcs = s.tcs := (rfl)
@[simp] theorem State.onCulvs_hay : (s.onCulvs f).hay = s.hay := (rfl)
@[simp] theorem State.onCulvs_tap : (s.onCulvs f).tap = s.tap := (rfl)
@[simp] theorem State.onCulvs_free : (s.onCulvs f).free = s.free := (rfl)
@[simp] theorem State.onCulvs_pending : (s.onCulvs f).pending = s.pending := (rfl)
end

section
variable (f : Tand → Tand)
@[simp] theorem State.onTand_tick : (s.onTand f).tick = s.tick := (rfl)
@[simp] theorem State.onTand_plots : (s.onTand f).plots = s.plots := (rfl)
@[simp] theorem State.onTand_field : (s.onTand f).field = s.field := (rfl)
@[simp] theorem State.onTand_pwr : (s.onTand f).pwr = s.pwr := (rfl)
@[simp] theorem State.onTand_stby : (s.onTand f).stby = s.stby := (rfl)
@[simp] theorem State.onTand_tally : (s.onTand f).tally = s.tally := (rfl)
@[simp] theorem State.onTand_tWin : (s.onTand f).tWin = s.tWin := (rfl)
@[simp] theorem State.onTand_uWin : (s.onTand f).uWin = s.uWin := (rfl)
@[simp] theorem State.onTand_usb : (s.onTand f).usb = s.usb := (rfl)
@[simp] theorem State.onTand_cfg : (s.onTand f).cfg = s.cfg := (rfl)
@[simp] theorem State.onTand_nvm : (s.onTand f).nvm = s.nvm := (rfl)
@[simp] theorem State.onTand_mem : (s.onTand f).mem = s.mem := (rfl)
@[simp] theorem State.onTand_sluices : (s.onTand f).sluices = s.sluices := (rfl)
@[simp] theorem State.onTand_hub : (s.onTand f).hub = s.hub := (rfl)
@[simp] theorem State.onTand_culvs : (s.onTand f).culvs = s.culvs := (rfl)
@[simp] theorem State.onTand_tand : (s.onTand f).tand = f s.tand := (rfl)
@[simp] theorem State.onTand_cads : (s.onTand f).cads = s.cads := (rfl)
@[simp] theorem State.onTand_ports : (s.onTand f).ports = s.ports := (rfl)
@[simp] theorem State.onTand_adc : (s.onTand f).adc = s.adc := (rfl)
@[simp] theorem State.onTand_tcs : (s.onTand f).tcs = s.tcs := (rfl)
@[simp] theorem State.onTand_hay : (s.onTand f).hay = s.hay := (rfl)
@[simp] theorem State.onTand_tap : (s.onTand f).tap = s.tap := (rfl)
@[simp] theorem State.onTand_free : (s.onTand f).free = s.free := (rfl)
@[simp] theorem State.onTand_pending : (s.onTand f).pending = s.pending := (rfl)
end

section
variable (f : List Stream → List Stream)
@[simp] theorem State.onCads_tick : (s.onCads f).tick = s.tick := (rfl)
@[simp] theorem State.onCads_plots : (s.onCads f).plots = s.plots := (rfl)
@[simp] theorem State.onCads_field : (s.onCads f).field = s.field := (rfl)
@[simp] theorem State.onCads_pwr : (s.onCads f).pwr = s.pwr := (rfl)
@[simp] theorem State.onCads_stby : (s.onCads f).stby = s.stby := (rfl)
@[simp] theorem State.onCads_tally : (s.onCads f).tally = s.tally := (rfl)
@[simp] theorem State.onCads_tWin : (s.onCads f).tWin = s.tWin := (rfl)
@[simp] theorem State.onCads_uWin : (s.onCads f).uWin = s.uWin := (rfl)
@[simp] theorem State.onCads_usb : (s.onCads f).usb = s.usb := (rfl)
@[simp] theorem State.onCads_cfg : (s.onCads f).cfg = s.cfg := (rfl)
@[simp] theorem State.onCads_nvm : (s.onCads f).nvm = s.nvm := (rfl)
@[simp] theorem State.onCads_mem : (s.onCads f).mem = s.mem := (rfl)
@[simp] theorem State.onCads_sluices : (s.onCads f).sluices = s.sluices := (rfl)
@[simp] theorem State.onCads_hub : (s.onCads f).hub = s.hub := (rfl)
@[simp] theorem State.onCads_culvs : (s.onCads f).culvs = s.culvs := (rfl)
@[simp] theorem State.onCads_tand : (s.onCads f).tand = s.tand := (rfl)
@[simp] theorem State.onCads_cads : (s.onCads f).cads = f s.cads := (rfl)
@[simp] theorem State.onCads_ports : (s.onCads f).ports = s.ports := (rfl)
@[simp] theorem State.onCads_adc : (s.onCads f).adc = s.adc := (rfl)
@[simp] theorem State.onCads_tcs : (s.onCads f).tcs = s.tcs := (rfl)
@[simp] theorem State.onCads_hay : (s.onCads f).hay = s.hay := (rfl)
@[simp] theorem State.onCads_tap : (s.onCads f).tap = s.tap := (rfl)
@[simp] theorem State.onCads_free : (s.onCads f).free = s.free := (rfl)
@[simp] theorem State.onCads_pending : (s.onCads f).pending = s.pending := (rfl)
end

section
variable (f : List PPort → List PPort)
@[simp] theorem State.onPorts_tick : (s.onPorts f).tick = s.tick := (rfl)
@[simp] theorem State.onPorts_plots : (s.onPorts f).plots = s.plots := (rfl)
@[simp] theorem State.onPorts_field : (s.onPorts f).field = s.field := (rfl)
@[simp] theorem State.onPorts_pwr : (s.onPorts f).pwr = s.pwr := (rfl)
@[simp] theorem State.onPorts_stby : (s.onPorts f).stby = s.stby := (rfl)
@[simp] theorem State.onPorts_tally : (s.onPorts f).tally = s.tally := (rfl)
@[simp] theorem State.onPorts_tWin : (s.onPorts f).tWin = s.tWin := (rfl)
@[simp] theorem State.onPorts_uWin : (s.onPorts f).uWin = s.uWin := (rfl)
@[simp] theorem State.onPorts_usb : (s.onPorts f).usb = s.usb := (rfl)
@[simp] theorem State.onPorts_cfg : (s.onPorts f).cfg = s.cfg := (rfl)
@[simp] theorem State.onPorts_nvm : (s.onPorts f).nvm = s.nvm := (rfl)
@[simp] theorem State.onPorts_mem : (s.onPorts f).mem = s.mem := (rfl)
@[simp] theorem State.onPorts_sluices : (s.onPorts f).sluices = s.sluices := (rfl)
@[simp] theorem State.onPorts_hub : (s.onPorts f).hub = s.hub := (rfl)
@[simp] theorem State.onPorts_culvs : (s.onPorts f).culvs = s.culvs := (rfl)
@[simp] theorem State.onPorts_tand : (s.onPorts f).tand = s.tand := (rfl)
@[simp] theorem State.onPorts_cads : (s.onPorts f).cads = s.cads := (rfl)
@[simp] theorem State.onPorts_ports : (s.onPorts f).ports = f s.ports := (rfl)
@[simp] theorem State.onPorts_adc : (s.onPorts f).adc = s.adc := (rfl)
@[simp] theorem State.onPorts_tcs : (s.onPorts f).tcs = s.tcs := (rfl)
@[simp] theorem State.onPorts_hay : (s.onPorts f).hay = s.hay := (rfl)
@[simp] theorem State.onPorts_tap : (s.onPorts f).tap = s.tap := (rfl)
@[simp] theorem State.onPorts_free : (s.onPorts f).free = s.free := (rfl)
@[simp] theorem State.onPorts_pending : (s.onPorts f).pending = s.pending := (rfl)
end

section
variable (f : Adc → Adc)
@[simp] theorem State.onAdc_tick : (s.onAdc f).tick = s.tick := (rfl)
@[simp] theorem State.onAdc_plots : (s.onAdc f).plots = s.plots := (rfl)
@[simp] theorem State.onAdc_field : (s.onAdc f).field = s.field := (rfl)
@[simp] theorem State.onAdc_pwr : (s.onAdc f).pwr = s.pwr := (rfl)
@[simp] theorem State.onAdc_stby : (s.onAdc f).stby = s.stby := (rfl)
@[simp] theorem State.onAdc_tally : (s.onAdc f).tally = s.tally := (rfl)
@[simp] theorem State.onAdc_tWin : (s.onAdc f).tWin = s.tWin := (rfl)
@[simp] theorem State.onAdc_uWin : (s.onAdc f).uWin = s.uWin := (rfl)
@[simp] theorem State.onAdc_usb : (s.onAdc f).usb = s.usb := (rfl)
@[simp] theorem State.onAdc_cfg : (s.onAdc f).cfg = s.cfg := (rfl)
@[simp] theorem State.onAdc_nvm : (s.onAdc f).nvm = s.nvm := (rfl)
@[simp] theorem State.onAdc_mem : (s.onAdc f).mem = s.mem := (rfl)
@[simp] theorem State.onAdc_sluices : (s.onAdc f).sluices = s.sluices := (rfl)
@[simp] theorem State.onAdc_hub : (s.onAdc f).hub = s.hub := (rfl)
@[simp] theorem State.onAdc_culvs : (s.onAdc f).culvs = s.culvs := (rfl)
@[simp] theorem State.onAdc_tand : (s.onAdc f).tand = s.tand := (rfl)
@[simp] theorem State.onAdc_cads : (s.onAdc f).cads = s.cads := (rfl)
@[simp] theorem State.onAdc_ports : (s.onAdc f).ports = s.ports := (rfl)
@[simp] theorem State.onAdc_adc : (s.onAdc f).adc = f s.adc := (rfl)
@[simp] theorem State.onAdc_tcs : (s.onAdc f).tcs = s.tcs := (rfl)
@[simp] theorem State.onAdc_hay : (s.onAdc f).hay = s.hay := (rfl)
@[simp] theorem State.onAdc_tap : (s.onAdc f).tap = s.tap := (rfl)
@[simp] theorem State.onAdc_free : (s.onAdc f).free = s.free := (rfl)
@[simp] theorem State.onAdc_pending : (s.onAdc f).pending = s.pending := (rfl)
end

section
variable (f : List TcPort → List TcPort)
@[simp] theorem State.onTcs_tick : (s.onTcs f).tick = s.tick := (rfl)
@[simp] theorem State.onTcs_plots : (s.onTcs f).plots = s.plots := (rfl)
@[simp] theorem State.onTcs_field : (s.onTcs f).field = s.field := (rfl)
@[simp] theorem State.onTcs_pwr : (s.onTcs f).pwr = s.pwr := (rfl)
@[simp] theorem State.onTcs_stby : (s.onTcs f).stby = s.stby := (rfl)
@[simp] theorem State.onTcs_tally : (s.onTcs f).tally = s.tally := (rfl)
@[simp] theorem State.onTcs_tWin : (s.onTcs f).tWin = s.tWin := (rfl)
@[simp] theorem State.onTcs_uWin : (s.onTcs f).uWin = s.uWin := (rfl)
@[simp] theorem State.onTcs_usb : (s.onTcs f).usb = s.usb := (rfl)
@[simp] theorem State.onTcs_cfg : (s.onTcs f).cfg = s.cfg := (rfl)
@[simp] theorem State.onTcs_nvm : (s.onTcs f).nvm = s.nvm := (rfl)
@[simp] theorem State.onTcs_mem : (s.onTcs f).mem = s.mem := (rfl)
@[simp] theorem State.onTcs_sluices : (s.onTcs f).sluices = s.sluices := (rfl)
@[simp] theorem State.onTcs_hub : (s.onTcs f).hub = s.hub := (rfl)
@[simp] theorem State.onTcs_culvs : (s.onTcs f).culvs = s.culvs := (rfl)
@[simp] theorem State.onTcs_tand : (s.onTcs f).tand = s.tand := (rfl)
@[simp] theorem State.onTcs_cads : (s.onTcs f).cads = s.cads := (rfl)
@[simp] theorem State.onTcs_ports : (s.onTcs f).ports = s.ports := (rfl)
@[simp] theorem State.onTcs_adc : (s.onTcs f).adc = s.adc := (rfl)
@[simp] theorem State.onTcs_tcs : (s.onTcs f).tcs = f s.tcs := (rfl)
@[simp] theorem State.onTcs_hay : (s.onTcs f).hay = s.hay := (rfl)
@[simp] theorem State.onTcs_tap : (s.onTcs f).tap = s.tap := (rfl)
@[simp] theorem State.onTcs_free : (s.onTcs f).free = s.free := (rfl)
@[simp] theorem State.onTcs_pending : (s.onTcs f).pending = s.pending := (rfl)
end

section
variable (f : Hay → Hay)
@[simp] theorem State.onHay_tick : (s.onHay f).tick = s.tick := (rfl)
@[simp] theorem State.onHay_plots : (s.onHay f).plots = s.plots := (rfl)
@[simp] theorem State.onHay_field : (s.onHay f).field = s.field := (rfl)
@[simp] theorem State.onHay_pwr : (s.onHay f).pwr = s.pwr := (rfl)
@[simp] theorem State.onHay_stby : (s.onHay f).stby = s.stby := (rfl)
@[simp] theorem State.onHay_tally : (s.onHay f).tally = s.tally := (rfl)
@[simp] theorem State.onHay_tWin : (s.onHay f).tWin = s.tWin := (rfl)
@[simp] theorem State.onHay_uWin : (s.onHay f).uWin = s.uWin := (rfl)
@[simp] theorem State.onHay_usb : (s.onHay f).usb = s.usb := (rfl)
@[simp] theorem State.onHay_cfg : (s.onHay f).cfg = s.cfg := (rfl)
@[simp] theorem State.onHay_nvm : (s.onHay f).nvm = s.nvm := (rfl)
@[simp] theorem State.onHay_mem : (s.onHay f).mem = s.mem := (rfl)
@[simp] theorem State.onHay_sluices : (s.onHay f).sluices = s.sluices := (rfl)
@[simp] theorem State.onHay_hub : (s.onHay f).hub = s.hub := (rfl)
@[simp] theorem State.onHay_culvs : (s.onHay f).culvs = s.culvs := (rfl)
@[simp] theorem State.onHay_tand : (s.onHay f).tand = s.tand := (rfl)
@[simp] theorem State.onHay_cads : (s.onHay f).cads = s.cads := (rfl)
@[simp] theorem State.onHay_ports : (s.onHay f).ports = s.ports := (rfl)
@[simp] theorem State.onHay_adc : (s.onHay f).adc = s.adc := (rfl)
@[simp] theorem State.onHay_tcs : (s.onHay f).tcs = s.tcs := (rfl)
@[simp] theorem State.onHay_hay : (s.onHay f).hay = f s.hay := (rfl)
@[simp] theorem State.onHay_tap : (s.onHay f).tap = s.tap := (rfl)
@[simp] theorem State.onHay_free : (s.onHay f).free = s.free := (rfl)
@[simp] theorem State.onHay_pending : (s.onHay f).pending = s.pending := (rfl)
end

section
variable (f : Tap → Tap)
@[simp] theorem State.onTap_tick : (s.onTap f).tick = s.tick := (rfl)
@[simp] theorem State.onTap_plots : (s.onTap f).plots = s.plots := (rfl)
@[simp] theorem State.onTap_field : (s.onTap f).field = s.field := (rfl)
@[simp] theorem State.onTap_pwr : (s.onTap f).pwr = s.pwr := (rfl)
@[simp] theorem State.onTap_stby : (s.onTap f).stby = s.stby := (rfl)
@[simp] theorem State.onTap_tally : (s.onTap f).tally = s.tally := (rfl)
@[simp] theorem State.onTap_tWin : (s.onTap f).tWin = s.tWin := (rfl)
@[simp] theorem State.onTap_uWin : (s.onTap f).uWin = s.uWin := (rfl)
@[simp] theorem State.onTap_usb : (s.onTap f).usb = s.usb := (rfl)
@[simp] theorem State.onTap_cfg : (s.onTap f).cfg = s.cfg := (rfl)
@[simp] theorem State.onTap_nvm : (s.onTap f).nvm = s.nvm := (rfl)
@[simp] theorem State.onTap_mem : (s.onTap f).mem = s.mem := (rfl)
@[simp] theorem State.onTap_sluices : (s.onTap f).sluices = s.sluices := (rfl)
@[simp] theorem State.onTap_hub : (s.onTap f).hub = s.hub := (rfl)
@[simp] theorem State.onTap_culvs : (s.onTap f).culvs = s.culvs := (rfl)
@[simp] theorem State.onTap_tand : (s.onTap f).tand = s.tand := (rfl)
@[simp] theorem State.onTap_cads : (s.onTap f).cads = s.cads := (rfl)
@[simp] theorem State.onTap_ports : (s.onTap f).ports = s.ports := (rfl)
@[simp] theorem State.onTap_adc : (s.onTap f).adc = s.adc := (rfl)
@[simp] theorem State.onTap_tcs : (s.onTap f).tcs = s.tcs := (rfl)
@[simp] theorem State.onTap_hay : (s.onTap f).hay = s.hay := (rfl)
@[simp] theorem State.onTap_tap : (s.onTap f).tap = f s.tap := (rfl)
@[simp] theorem State.onTap_free : (s.onTap f).free = s.free := (rfl)
@[simp] theorem State.onTap_pending : (s.onTap f).pending = s.pending := (rfl)
end

section
variable (i : Nat) (f : Plot → Plot)
@[simp] theorem State.onPlot_tick : (State.onPlot i f s).tick = s.tick := (rfl)
@[simp] theorem State.onPlot_plots : (State.onPlot i f s).plots = updNth s.plots i f := (rfl)
@[simp] theorem State.onPlot_field : (State.onPlot i f s).field = s.field := (rfl)
@[simp] theorem State.onPlot_pwr : (State.onPlot i f s).pwr = s.pwr := (rfl)
@[simp] theorem State.onPlot_stby : (State.onPlot i f s).stby = s.stby := (rfl)
@[simp] theorem State.onPlot_tally : (State.onPlot i f s).tally = s.tally := (rfl)
@[simp] theorem State.onPlot_tWin : (State.onPlot i f s).tWin = s.tWin := (rfl)
@[simp] theorem State.onPlot_uWin : (State.onPlot i f s).uWin = s.uWin := (rfl)
@[simp] theorem State.onPlot_usb : (State.onPlot i f s).usb = s.usb := (rfl)
@[simp] theorem State.onPlot_cfg : (State.onPlot i f s).cfg = s.cfg := (rfl)
@[simp] theorem State.onPlot_nvm : (State.onPlot i f s).nvm = s.nvm := (rfl)
@[simp] theorem State.onPlot_mem : (State.onPlot i f s).mem = s.mem := (rfl)
@[simp] theorem State.onPlot_sluices : (State.onPlot i f s).sluices = s.sluices := (rfl)
@[simp] theorem State.onPlot_hub : (State.onPlot i f s).hub = s.hub := (rfl)
@[simp] theorem State.onPlot_culvs : (State.onPlot i f s).culvs = s.culvs := (rfl)
@[simp] theorem State.onPlot_tand : (State.onPlot i f s).tand = s.tand := (rfl)
@[simp] theorem State.onPlot_cads : (State.onPlot i f s).cads = s.cads := (rfl)
@[simp] theorem State.onPlot_ports : (State.onPlot i f s).ports = s.ports := (rfl)
@[simp] theorem State.onPlot_adc : (State.onPlot i f s).adc = s.adc := (rfl)
@[simp] theorem State.onPlot_tcs : (State.onPlot i f s).tcs = s.tcs := (rfl)
@[simp] theorem State.onPlot_hay : (State.onPlot i f s).hay = s.hay := (rfl)
@[simp] theorem State.onPlot_tap : (State.onPlot i f s).tap = s.tap := (rfl)
@[simp] theorem State.onPlot_free : (State.onPlot i f s).free = s.free := (rfl)
@[simp] theorem State.onPlot_pending : (State.onPlot i f s).pending = s.pending := (rfl)
end

section
variable (i : Nat) (f : PPort → PPort)
@[simp] theorem State.onPort_tick : (State.onPort i f s).tick = s.tick := (rfl)
@[simp] theorem State.onPort_plots : (State.onPort i f s).plots = s.plots := (rfl)
@[simp] theorem State.onPort_field : (State.onPort i f s).field = s.field := (rfl)
@[simp] theorem State.onPort_pwr : (State.onPort i f s).pwr = s.pwr := (rfl)
@[simp] theorem State.onPort_stby : (State.onPort i f s).stby = s.stby := (rfl)
@[simp] theorem State.onPort_tally : (State.onPort i f s).tally = s.tally := (rfl)
@[simp] theorem State.onPort_tWin : (State.onPort i f s).tWin = s.tWin := (rfl)
@[simp] theorem State.onPort_uWin : (State.onPort i f s).uWin = s.uWin := (rfl)
@[simp] theorem State.onPort_usb : (State.onPort i f s).usb = s.usb := (rfl)
@[simp] theorem State.onPort_cfg : (State.onPort i f s).cfg = s.cfg := (rfl)
@[simp] theorem State.onPort_nvm : (State.onPort i f s).nvm = s.nvm := (rfl)
@[simp] theorem State.onPort_mem : (State.onPort i f s).mem = s.mem := (rfl)
@[simp] theorem State.onPort_sluices : (State.onPort i f s).sluices = s.sluices := (rfl)
@[simp] theorem State.onPort_hub : (State.onPort i f s).hub = s.hub := (rfl)
@[simp] theorem State.onPort_culvs : (State.onPort i f s).culvs = s.culvs := (rfl)
@[simp] theorem State.onPort_tand : (State.onPort i f s).tand = s.tand := (rfl)
@[simp] theorem State.onPort_cads : (State.onPort i f s).cads = s.cads := (rfl)
@[simp] theorem State.onPort_ports : (State.onPort i f s).ports = updNth s.ports i f := (rfl)
@[simp] theorem State.onPort_adc : (State.onPort i f s).adc = s.adc := (rfl)
@[simp] theorem State.onPort_tcs : (State.onPort i f s).tcs = s.tcs := (rfl)
@[simp] theorem State.onPort_hay : (State.onPort i f s).hay = s.hay := (rfl)
@[simp] theorem State.onPort_tap : (State.onPort i f s).tap = s.tap := (rfl)
@[simp] theorem State.onPort_free : (State.onPort i f s).free = s.free := (rfl)
@[simp] theorem State.onPort_pending : (State.onPort i f s).pending = s.pending := (rfl)
end

section
variable (i : Nat) (f : TcPort → TcPort)
@[simp] theorem State.onTc_tick : (State.onTc i f s).tick = s.tick := (rfl)
@[simp] theorem State.onTc_plots : (State.onTc i f s).plots = s.plots := (rfl)
@[simp] theorem State.onTc_field : (State.onTc i f s).field = s.field := (rfl)
@[simp] theorem State.onTc_pwr : (State.onTc i f s).pwr = s.pwr := (rfl)
@[simp] theorem State.onTc_stby : (State.onTc i f s).stby = s.stby := (rfl)
@[simp] theorem State.onTc_tally : (State.onTc i f s).tally = s.tally := (rfl)
@[simp] theorem State.onTc_tWin : (State.onTc i f s).tWin = s.tWin := (rfl)
@[simp] theorem State.onTc_uWin : (State.onTc i f s).uWin = s.uWin := (rfl)
@[simp] theorem State.onTc_usb : (State.onTc i f s).usb = s.usb := (rfl)
@[simp] theorem State.onTc_cfg : (State.onTc i f s).cfg = s.cfg := (rfl)
@[simp] theorem State.onTc_nvm : (State.onTc i f s).nvm = s.nvm := (rfl)
@[simp] theorem State.onTc_mem : (State.onTc i f s).mem = s.mem := (rfl)
@[simp] theorem State.onTc_sluices : (State.onTc i f s).sluices = s.sluices := (rfl)
@[simp] theorem State.onTc_hub : (State.onTc i f s).hub = s.hub := (rfl)
@[simp] theorem State.onTc_culvs : (State.onTc i f s).culvs = s.culvs := (rfl)
@[simp] theorem State.onTc_tand : (State.onTc i f s).tand = s.tand := (rfl)
@[simp] theorem State.onTc_cads : (State.onTc i f s).cads = s.cads := (rfl)
@[simp] theorem State.onTc_ports : (State.onTc i f s).ports = s.ports := (rfl)
@[simp] theorem State.onTc_adc : (State.onTc i f s).adc = s.adc := (rfl)
@[simp] theorem State.onTc_tcs : (State.onTc i f s).tcs = updNth s.tcs i f := (rfl)
@[simp] theorem State.onTc_hay : (State.onTc i f s).hay = s.hay := (rfl)
@[simp] theorem State.onTc_tap : (State.onTc i f s).tap = s.tap := (rfl)
@[simp] theorem State.onTc_free : (State.onTc i f s).free = s.free := (rfl)
@[simp] theorem State.onTc_pending : (State.onTc i f s).pending = s.pending := (rfl)
end

section
variable (i : Nat) (f : Stream → Stream)
@[simp] theorem State.onCad_tick : (State.onCad i f s).tick = s.tick := (rfl)
@[simp] theorem State.onCad_plots : (State.onCad i f s).plots = s.plots := (rfl)
@[simp] theorem State.onCad_field : (State.onCad i f s).field = s.field := (rfl)
@[simp] theorem State.onCad_pwr : (State.onCad i f s).pwr = s.pwr := (rfl)
@[simp] theorem State.onCad_stby : (State.onCad i f s).stby = s.stby := (rfl)
@[simp] theorem State.onCad_tally : (State.onCad i f s).tally = s.tally := (rfl)
@[simp] theorem State.onCad_tWin : (State.onCad i f s).tWin = s.tWin := (rfl)
@[simp] theorem State.onCad_uWin : (State.onCad i f s).uWin = s.uWin := (rfl)
@[simp] theorem State.onCad_usb : (State.onCad i f s).usb = s.usb := (rfl)
@[simp] theorem State.onCad_cfg : (State.onCad i f s).cfg = s.cfg := (rfl)
@[simp] theorem State.onCad_nvm : (State.onCad i f s).nvm = s.nvm := (rfl)
@[simp] theorem State.onCad_mem : (State.onCad i f s).mem = s.mem := (rfl)
@[simp] theorem State.onCad_sluices : (State.onCad i f s).sluices = s.sluices := (rfl)
@[simp] theorem State.onCad_hub : (State.onCad i f s).hub = s.hub := (rfl)
@[simp] theorem State.onCad_culvs : (State.onCad i f s).culvs = s.culvs := (rfl)
@[simp] theorem State.onCad_tand : (State.onCad i f s).tand = s.tand := (rfl)
@[simp] theorem State.onCad_cads : (State.onCad i f s).cads = updNth s.cads i f := (rfl)
@[simp] theorem State.onCad_ports : (State.onCad i f s).ports = s.ports := (rfl)
@[simp] theorem State.onCad_adc : (State.onCad i f s).adc = s.adc := (rfl)
@[simp] theorem State.onCad_tcs : (State.onCad i f s).tcs = s.tcs := (rfl)
@[simp] theorem State.onCad_hay : (State.onCad i f s).hay = s.hay := (rfl)
@[simp] theorem State.onCad_tap : (State.onCad i f s).tap = s.tap := (rfl)
@[simp] theorem State.onCad_free : (State.onCad i f s).free = s.free := (rfl)
@[simp] theorem State.onCad_pending : (State.onCad i f s).pending = s.pending := (rfl)
end

section
variable (i : Nat) (f : HubPort → HubPort)
@[simp] theorem State.onHubPort_tick : (State.onHubPort i f s).tick = s.tick := (rfl)
@[simp] theorem State.onHubPort_plots : (State.onHubPort i f s).plots = s.plots := (rfl)
@[simp] theorem State.onHubPort_field : (State.onHubPort i f s).field = s.field := (rfl)
@[simp] theorem State.onHubPort_pwr : (State.onHubPort i f s).pwr = s.pwr := (rfl)
@[simp] theorem State.onHubPort_stby : (State.onHubPort i f s).stby = s.stby := (rfl)
@[simp] theorem State.onHubPort_tally : (State.onHubPort i f s).tally = s.tally := (rfl)
@[simp] theorem State.onHubPort_tWin : (State.onHubPort i f s).tWin = s.tWin := (rfl)
@[simp] theorem State.onHubPort_uWin : (State.onHubPort i f s).uWin = s.uWin := (rfl)
@[simp] theorem State.onHubPort_usb : (State.onHubPort i f s).usb = s.usb := (rfl)
@[simp] theorem State.onHubPort_cfg : (State.onHubPort i f s).cfg = s.cfg := (rfl)
@[simp] theorem State.onHubPort_nvm : (State.onHubPort i f s).nvm = s.nvm := (rfl)
@[simp] theorem State.onHubPort_mem : (State.onHubPort i f s).mem = s.mem := (rfl)
@[simp] theorem State.onHubPort_sluices : (State.onHubPort i f s).sluices = s.sluices := (rfl)
@[simp] theorem State.onHubPort_hub : (State.onHubPort i f s).hub = { s.hub with ports := updNth s.hub.ports i f } := (rfl)
@[simp] theorem State.onHubPort_culvs : (State.onHubPort i f s).culvs = s.culvs := (rfl)
@[simp] theorem State.onHubPort_tand : (State.onHubPort i f s).tand = s.tand := (rfl)
@[simp] theorem State.onHubPort_cads : (State.onHubPort i f s).cads = s.cads := (rfl)
@[simp] theorem State.onHubPort_ports : (State.onHubPort i f s).ports = s.ports := (rfl)
@[simp] theorem State.onHubPort_adc : (State.onHubPort i f s).adc = s.adc := (rfl)
@[simp] theorem State.onHubPort_tcs : (State.onHubPort i f s).tcs = s.tcs := (rfl)
@[simp] theorem State.onHubPort_hay : (State.onHubPort i f s).hay = s.hay := (rfl)
@[simp] theorem State.onHubPort_tap : (State.onHubPort i f s).tap = s.tap := (rfl)
@[simp] theorem State.onHubPort_free : (State.onHubPort i f s).free = s.free := (rfl)
@[simp] theorem State.onHubPort_pending : (State.onHubPort i f s).pending = s.pending := (rfl)
end

section
variable (i : Nat) (f : Sluice → Sluice)
@[simp] theorem State.onSluice_tick : (State.onSluice i f s).tick = s.tick := (rfl)
@[simp] theorem State.onSluice_plots : (State.onSluice i f s).plots = s.plots := (rfl)
@[simp] theorem State.onSluice_field : (State.onSluice i f s).field = s.field := (rfl)
@[simp] theorem State.onSluice_pwr : (State.onSluice i f s).pwr = s.pwr := (rfl)
@[simp] theorem State.onSluice_stby : (State.onSluice i f s).stby = s.stby := (rfl)
@[simp] theorem State.onSluice_tally : (State.onSluice i f s).tally = s.tally := (rfl)
@[simp] theorem State.onSluice_tWin : (State.onSluice i f s).tWin = s.tWin := (rfl)
@[simp] theorem State.onSluice_uWin : (State.onSluice i f s).uWin = s.uWin := (rfl)
@[simp] theorem State.onSluice_usb : (State.onSluice i f s).usb = s.usb := (rfl)
@[simp] theorem State.onSluice_cfg : (State.onSluice i f s).cfg = s.cfg := (rfl)
@[simp] theorem State.onSluice_nvm : (State.onSluice i f s).nvm = s.nvm := (rfl)
@[simp] theorem State.onSluice_mem : (State.onSluice i f s).mem = s.mem := (rfl)
@[simp] theorem State.onSluice_sluices : (State.onSluice i f s).sluices = wrStore Sluice.empty s.sluices i (f (rdStore Sluice.empty s.sluices i)) := (rfl)
@[simp] theorem State.onSluice_hub : (State.onSluice i f s).hub = s.hub := (rfl)
@[simp] theorem State.onSluice_culvs : (State.onSluice i f s).culvs = s.culvs := (rfl)
@[simp] theorem State.onSluice_tand : (State.onSluice i f s).tand = s.tand := (rfl)
@[simp] theorem State.onSluice_cads : (State.onSluice i f s).cads = s.cads := (rfl)
@[simp] theorem State.onSluice_ports : (State.onSluice i f s).ports = s.ports := (rfl)
@[simp] theorem State.onSluice_adc : (State.onSluice i f s).adc = s.adc := (rfl)
@[simp] theorem State.onSluice_tcs : (State.onSluice i f s).tcs = s.tcs := (rfl)
@[simp] theorem State.onSluice_hay : (State.onSluice i f s).hay = s.hay := (rfl)
@[simp] theorem State.onSluice_tap : (State.onSluice i f s).tap = s.tap := (rfl)
@[simp] theorem State.onSluice_free : (State.onSluice i f s).free = s.free := (rfl)
@[simp] theorem State.onSluice_pending : (State.onSluice i f s).pending = s.pending := (rfl)
end

section
variable (i : Nat) (f : FEp → FEp)
@[simp] theorem State.onEp_tick : (State.onEp i f s).tick = s.tick := (rfl)
@[simp] theorem State.onEp_plots : (State.onEp i f s).plots = s.plots := (rfl)
@[simp] theorem State.onEp_field : (State.onEp i f s).field = s.field := (rfl)
@[simp] theorem State.onEp_pwr : (State.onEp i f s).pwr = s.pwr := (rfl)
@[simp] theorem State.onEp_stby : (State.onEp i f s).stby = s.stby := (rfl)
@[simp] theorem State.onEp_tally : (State.onEp i f s).tally = s.tally := (rfl)
@[simp] theorem State.onEp_tWin : (State.onEp i f s).tWin = s.tWin := (rfl)
@[simp] theorem State.onEp_uWin : (State.onEp i f s).uWin = s.uWin := (rfl)
@[simp] theorem State.onEp_usb : (State.onEp i f s).usb = s.usb := (rfl)
@[simp] theorem State.onEp_cfg : (State.onEp i f s).cfg = s.cfg := (rfl)
@[simp] theorem State.onEp_nvm : (State.onEp i f s).nvm = s.nvm := (rfl)
@[simp] theorem State.onEp_mem : (State.onEp i f s).mem = s.mem := (rfl)
@[simp] theorem State.onEp_sluices : (State.onEp i f s).sluices = s.sluices := (rfl)
@[simp] theorem State.onEp_hub : (State.onEp i f s).hub = { s.hub with eps := wrStore FEp.reset s.hub.eps i (f (rdStore FEp.reset s.hub.eps i)) } := (rfl)
@[simp] theorem State.onEp_culvs : (State.onEp i f s).culvs = s.culvs := (rfl)
@[simp] theorem State.onEp_tand : (State.onEp i f s).tand = s.tand := (rfl)
@[simp] theorem State.onEp_cads : (State.onEp i f s).cads = s.cads := (rfl)
@[simp] theorem State.onEp_ports : (State.onEp i f s).ports = s.ports := (rfl)
@[simp] theorem State.onEp_adc : (State.onEp i f s).adc = s.adc := (rfl)
@[simp] theorem State.onEp_tcs : (State.onEp i f s).tcs = s.tcs := (rfl)
@[simp] theorem State.onEp_hay : (State.onEp i f s).hay = s.hay := (rfl)
@[simp] theorem State.onEp_tap : (State.onEp i f s).tap = s.tap := (rfl)
@[simp] theorem State.onEp_free : (State.onEp i f s).free = s.free := (rfl)
@[simp] theorem State.onEp_pending : (State.onEp i f s).pending = s.pending := (rfl)
end

section
variable (i : Nat) (f : Entry → Entry)
@[simp] theorem State.onEntry_tick : (State.onEntry i f s).tick = s.tick := (rfl)
@[simp] theorem State.onEntry_plots : (State.onEntry i f s).plots = s.plots := (rfl)
@[simp] theorem State.onEntry_field : (State.onEntry i f s).field = s.field := (rfl)
@[simp] theorem State.onEntry_pwr : (State.onEntry i f s).pwr = s.pwr := (rfl)
@[simp] theorem State.onEntry_stby : (State.onEntry i f s).stby = s.stby := (rfl)
@[simp] theorem State.onEntry_tally : (State.onEntry i f s).tally = s.tally := (rfl)
@[simp] theorem State.onEntry_tWin : (State.onEntry i f s).tWin = s.tWin := (rfl)
@[simp] theorem State.onEntry_uWin : (State.onEntry i f s).uWin = s.uWin := (rfl)
@[simp] theorem State.onEntry_usb : (State.onEntry i f s).usb = s.usb := (rfl)
@[simp] theorem State.onEntry_cfg : (State.onEntry i f s).cfg = s.cfg := (rfl)
@[simp] theorem State.onEntry_nvm : (State.onEntry i f s).nvm = s.nvm := (rfl)
@[simp] theorem State.onEntry_mem : (State.onEntry i f s).mem = { s.mem with ledger := wrStore noEntry s.mem.ledger i (f (rdStore noEntry s.mem.ledger i)) } := (rfl)
@[simp] theorem State.onEntry_sluices : (State.onEntry i f s).sluices = s.sluices := (rfl)
@[simp] theorem State.onEntry_hub : (State.onEntry i f s).hub = s.hub := (rfl)
@[simp] theorem State.onEntry_culvs : (State.onEntry i f s).culvs = s.culvs := (rfl)
@[simp] theorem State.onEntry_tand : (State.onEntry i f s).tand = s.tand := (rfl)
@[simp] theorem State.onEntry_cads : (State.onEntry i f s).cads = s.cads := (rfl)
@[simp] theorem State.onEntry_ports : (State.onEntry i f s).ports = s.ports := (rfl)
@[simp] theorem State.onEntry_adc : (State.onEntry i f s).adc = s.adc := (rfl)
@[simp] theorem State.onEntry_tcs : (State.onEntry i f s).tcs = s.tcs := (rfl)
@[simp] theorem State.onEntry_hay : (State.onEntry i f s).hay = s.hay := (rfl)
@[simp] theorem State.onEntry_tap : (State.onEntry i f s).tap = s.tap := (rfl)
@[simp] theorem State.onEntry_free : (State.onEntry i f s).free = s.free := (rfl)
@[simp] theorem State.onEntry_pending : (State.onEntry i f s).pending = s.pending := (rfl)
end

section
variable (i : Nat) (f : Culv → Culv)
@[simp] theorem State.onCulv_tick : (State.onCulv i f s).tick = s.tick := (rfl)
@[simp] theorem State.onCulv_plots : (State.onCulv i f s).plots = s.plots := (rfl)
@[simp] theorem State.onCulv_field : (State.onCulv i f s).field = s.field := (rfl)
@[simp] theorem State.onCulv_pwr : (State.onCulv i f s).pwr = s.pwr := (rfl)
@[simp] theorem State.onCulv_stby : (State.onCulv i f s).stby = s.stby := (rfl)
@[simp] theorem State.onCulv_tally : (State.onCulv i f s).tally = s.tally := (rfl)
@[simp] theorem State.onCulv_tWin : (State.onCulv i f s).tWin = s.tWin := (rfl)
@[simp] theorem State.onCulv_uWin : (State.onCulv i f s).uWin = s.uWin := (rfl)
@[simp] theorem State.onCulv_usb : (State.onCulv i f s).usb = s.usb := (rfl)
@[simp] theorem State.onCulv_cfg : (State.onCulv i f s).cfg = s.cfg := (rfl)
@[simp] theorem State.onCulv_nvm : (State.onCulv i f s).nvm = s.nvm := (rfl)
@[simp] theorem State.onCulv_mem : (State.onCulv i f s).mem = s.mem := (rfl)
@[simp] theorem State.onCulv_sluices : (State.onCulv i f s).sluices = s.sluices := (rfl)
@[simp] theorem State.onCulv_hub : (State.onCulv i f s).hub = s.hub := (rfl)
@[simp] theorem State.onCulv_tand : (State.onCulv i f s).tand = s.tand := (rfl)
@[simp] theorem State.onCulv_cads : (State.onCulv i f s).cads = s.cads := (rfl)
@[simp] theorem State.onCulv_ports : (State.onCulv i f s).ports = s.ports := (rfl)
@[simp] theorem State.onCulv_adc : (State.onCulv i f s).adc = s.adc := (rfl)
@[simp] theorem State.onCulv_tcs : (State.onCulv i f s).tcs = s.tcs := (rfl)
@[simp] theorem State.onCulv_hay : (State.onCulv i f s).hay = s.hay := (rfl)
@[simp] theorem State.onCulv_tap : (State.onCulv i f s).tap = s.tap := (rfl)
@[simp] theorem State.onCulv_free : (State.onCulv i f s).free = s.free := (rfl)
@[simp] theorem State.onCulv_pending : (State.onCulv i f s).pending = s.pending := (rfl)
end

section
variable (f : C1Bus → C1Bus)
@[simp] theorem State.onBus_tick : (State.onBus f s).tick = s.tick := (rfl)
@[simp] theorem State.onBus_plots : (State.onBus f s).plots = s.plots := (rfl)
@[simp] theorem State.onBus_field : (State.onBus f s).field = s.field := (rfl)
@[simp] theorem State.onBus_pwr : (State.onBus f s).pwr = s.pwr := (rfl)
@[simp] theorem State.onBus_stby : (State.onBus f s).stby = s.stby := (rfl)
@[simp] theorem State.onBus_tally : (State.onBus f s).tally = s.tally := (rfl)
@[simp] theorem State.onBus_tWin : (State.onBus f s).tWin = s.tWin := (rfl)
@[simp] theorem State.onBus_uWin : (State.onBus f s).uWin = s.uWin := (rfl)
@[simp] theorem State.onBus_usb : (State.onBus f s).usb = s.usb := (rfl)
@[simp] theorem State.onBus_cfg : (State.onBus f s).cfg = s.cfg := (rfl)
@[simp] theorem State.onBus_nvm : (State.onBus f s).nvm = s.nvm := (rfl)
@[simp] theorem State.onBus_mem : (State.onBus f s).mem = s.mem := (rfl)
@[simp] theorem State.onBus_sluices : (State.onBus f s).sluices = s.sluices := (rfl)
@[simp] theorem State.onBus_hub : (State.onBus f s).hub = s.hub := (rfl)
@[simp] theorem State.onBus_culvs : (State.onBus f s).culvs = { s.culvs with bus := f s.culvs.bus } := (rfl)
@[simp] theorem State.onBus_tand : (State.onBus f s).tand = s.tand := (rfl)
@[simp] theorem State.onBus_cads : (State.onBus f s).cads = s.cads := (rfl)
@[simp] theorem State.onBus_ports : (State.onBus f s).ports = s.ports := (rfl)
@[simp] theorem State.onBus_adc : (State.onBus f s).adc = s.adc := (rfl)
@[simp] theorem State.onBus_tcs : (State.onBus f s).tcs = s.tcs := (rfl)
@[simp] theorem State.onBus_hay : (State.onBus f s).hay = s.hay := (rfl)
@[simp] theorem State.onBus_tap : (State.onBus f s).tap = s.tap := (rfl)
@[simp] theorem State.onBus_free : (State.onBus f s).free = s.free := (rfl)
@[simp] theorem State.onBus_pending : (State.onBus f s).pending = s.pending := (rfl)
end

section
variable (i : Nat) (f : CWord)
@[simp] theorem State.setCword_tick : (State.setCword i f s).tick = s.tick := (rfl)
@[simp] theorem State.setCword_plots : (State.setCword i f s).plots = s.plots := (rfl)
@[simp] theorem State.setCword_field : (State.setCword i f s).field = s.field := (rfl)
@[simp] theorem State.setCword_pwr : (State.setCword i f s).pwr = s.pwr := (rfl)
@[simp] theorem State.setCword_stby : (State.setCword i f s).stby = s.stby := (rfl)
@[simp] theorem State.setCword_tally : (State.setCword i f s).tally = s.tally := (rfl)
@[simp] theorem State.setCword_tWin : (State.setCword i f s).tWin = s.tWin := (rfl)
@[simp] theorem State.setCword_uWin : (State.setCword i f s).uWin = s.uWin := (rfl)
@[simp] theorem State.setCword_usb : (State.setCword i f s).usb = s.usb := (rfl)
@[simp] theorem State.setCword_cfg : (State.setCword i f s).cfg = s.cfg := (rfl)
@[simp] theorem State.setCword_nvm : (State.setCword i f s).nvm = s.nvm := (rfl)
@[simp] theorem State.setCword_mem : (State.setCword i f s).mem = { s.mem with commons := wrStore zeroWord s.mem.commons i f } := (rfl)
@[simp] theorem State.setCword_sluices : (State.setCword i f s).sluices = s.sluices := (rfl)
@[simp] theorem State.setCword_hub : (State.setCword i f s).hub = s.hub := (rfl)
@[simp] theorem State.setCword_culvs : (State.setCword i f s).culvs = s.culvs := (rfl)
@[simp] theorem State.setCword_tand : (State.setCword i f s).tand = s.tand := (rfl)
@[simp] theorem State.setCword_cads : (State.setCword i f s).cads = s.cads := (rfl)
@[simp] theorem State.setCword_ports : (State.setCword i f s).ports = s.ports := (rfl)
@[simp] theorem State.setCword_adc : (State.setCword i f s).adc = s.adc := (rfl)
@[simp] theorem State.setCword_tcs : (State.setCword i f s).tcs = s.tcs := (rfl)
@[simp] theorem State.setCword_hay : (State.setCword i f s).hay = s.hay := (rfl)
@[simp] theorem State.setCword_tap : (State.setCword i f s).tap = s.tap := (rfl)
@[simp] theorem State.setCword_free : (State.setCword i f s).free = s.free := (rfl)
@[simp] theorem State.setCword_pending : (State.setCword i f s).pending = s.pending := (rfl)
end

section
@[simp] theorem State.took_tick : (State.took s).tick = s.tick := (rfl)
@[simp] theorem State.took_plots : (State.took s).plots = s.plots := (rfl)
@[simp] theorem State.took_field : (State.took s).field = s.field := (rfl)
@[simp] theorem State.took_pwr : (State.took s).pwr = s.pwr := (rfl)
@[simp] theorem State.took_stby : (State.took s).stby = s.stby := (rfl)
@[simp] theorem State.took_tally : (State.took s).tally = s.tally := (rfl)
@[simp] theorem State.took_tWin : (State.took s).tWin = s.tWin := (rfl)
@[simp] theorem State.took_uWin : (State.took s).uWin = s.uWin := (rfl)
@[simp] theorem State.took_usb : (State.took s).usb = s.usb := (rfl)
@[simp] theorem State.took_cfg : (State.took s).cfg = s.cfg := (rfl)
@[simp] theorem State.took_nvm : (State.took s).nvm = s.nvm := (rfl)
@[simp] theorem State.took_mem : (State.took s).mem = s.mem := (rfl)
@[simp] theorem State.took_sluices : (State.took s).sluices = s.sluices := (rfl)
@[simp] theorem State.took_hub : (State.took s).hub = s.hub := (rfl)
@[simp] theorem State.took_culvs : (State.took s).culvs = s.culvs := (rfl)
@[simp] theorem State.took_tand : (State.took s).tand = s.tand := (rfl)
@[simp] theorem State.took_cads : (State.took s).cads = s.cads := (rfl)
@[simp] theorem State.took_ports : (State.took s).ports = s.ports := (rfl)
@[simp] theorem State.took_adc : (State.took s).adc = s.adc := (rfl)
@[simp] theorem State.took_tcs : (State.took s).tcs = s.tcs := (rfl)
@[simp] theorem State.took_hay : (State.took s).hay = s.hay := (rfl)
@[simp] theorem State.took_tap : (State.took s).tap = s.tap := (rfl)
@[simp] theorem State.took_free : (State.took s).free = s.free + 1 := (rfl)
@[simp] theorem State.took_pending : (State.took s).pending = s.pending := (rfl)
end

section
variable (e : Event)
@[simp] theorem raise_tick : (raise e s).tick = s.tick := (rfl)
@[simp] theorem raise_plots : (raise e s).plots = s.plots := (rfl)
@[simp] theorem raise_field : (raise e s).field = s.field := (rfl)
@[simp] theorem raise_pwr : (raise e s).pwr = s.pwr := (rfl)
@[simp] theorem raise_stby : (raise e s).stby = s.stby := (rfl)
@[simp] theorem raise_tally : (raise e s).tally = s.tally := (rfl)
@[simp] theorem raise_tWin : (raise e s).tWin = s.tWin := (rfl)
@[simp] theorem raise_uWin : (raise e s).uWin = s.uWin := (rfl)
@[simp] theorem raise_usb : (raise e s).usb = s.usb := (rfl)
@[simp] theorem raise_cfg : (raise e s).cfg = s.cfg := (rfl)
@[simp] theorem raise_nvm : (raise e s).nvm = s.nvm := (rfl)
@[simp] theorem raise_mem : (raise e s).mem = s.mem := (rfl)
@[simp] theorem raise_sluices : (raise e s).sluices = s.sluices := (rfl)
@[simp] theorem raise_hub : (raise e s).hub = s.hub := (rfl)
@[simp] theorem raise_culvs : (raise e s).culvs = s.culvs := (rfl)
@[simp] theorem raise_tand : (raise e s).tand = s.tand := (rfl)
@[simp] theorem raise_cads : (raise e s).cads = s.cads := (rfl)
@[simp] theorem raise_ports : (raise e s).ports = s.ports := (rfl)
@[simp] theorem raise_adc : (raise e s).adc = s.adc := (rfl)
@[simp] theorem raise_tcs : (raise e s).tcs = s.tcs := (rfl)
@[simp] theorem raise_hay : (raise e s).hay = { s.hay with raised := s.hay.raised ++ [e] } := (rfl)
@[simp] theorem raise_tap : (raise e s).tap = s.tap := (rfl)
@[simp] theorem raise_free : (raise e s).free = s.free := (rfl)
@[simp] theorem raise_pending : (raise e s).pending = s.pending := (rfl)
end

section
variable (hs : Hs) (ws : List W) (bs : List Byte)
@[simp] theorem answer_tick : (answer hs ws bs s).tick = s.tick := (rfl)
@[simp] theorem answer_plots : (answer hs ws bs s).plots = s.plots := (rfl)
@[simp] theorem answer_field : (answer hs ws bs s).field = s.field := (rfl)
@[simp] theorem answer_pwr : (answer hs ws bs s).pwr = s.pwr := (rfl)
@[simp] theorem answer_stby : (answer hs ws bs s).stby = s.stby := (rfl)
@[simp] theorem answer_tally : (answer hs ws bs s).tally = s.tally := (rfl)
@[simp] theorem answer_tWin : (answer hs ws bs s).tWin = s.tWin := (rfl)
@[simp] theorem answer_uWin : (answer hs ws bs s).uWin = s.uWin := (rfl)
@[simp] theorem answer_usb : (answer hs ws bs s).usb = { s.usb with resp := ⟨hs, ws, bs⟩ } := (rfl)
@[simp] theorem answer_cfg : (answer hs ws bs s).cfg = s.cfg := (rfl)
@[simp] theorem answer_nvm : (answer hs ws bs s).nvm = s.nvm := (rfl)
@[simp] theorem answer_mem : (answer hs ws bs s).mem = s.mem := (rfl)
@[simp] theorem answer_sluices : (answer hs ws bs s).sluices = s.sluices := (rfl)
@[simp] theorem answer_hub : (answer hs ws bs s).hub = s.hub := (rfl)
@[simp] theorem answer_culvs : (answer hs ws bs s).culvs = s.culvs := (rfl)
@[simp] theorem answer_tand : (answer hs ws bs s).tand = s.tand := (rfl)
@[simp] theorem answer_cads : (answer hs ws bs s).cads = s.cads := (rfl)
@[simp] theorem answer_ports : (answer hs ws bs s).ports = s.ports := (rfl)
@[simp] theorem answer_adc : (answer hs ws bs s).adc = s.adc := (rfl)
@[simp] theorem answer_tcs : (answer hs ws bs s).tcs = s.tcs := (rfl)
@[simp] theorem answer_hay : (answer hs ws bs s).hay = s.hay := (rfl)
@[simp] theorem answer_tap : (answer hs ws bs s).tap = s.tap := (rfl)
@[simp] theorem answer_free : (answer hs ws bs s).free = s.free := (rfl)
@[simp] theorem answer_pending : (answer hs ws bs s).pending = s.pending := (rfl)
end

@[simp] theorem onlyIf_true (f : State → State) : onlyIf true f s = f s := rfl
@[simp] theorem onlyIf_false (f : State → State) : onlyIf false f s = s := rfl
theorem onlyIf_of {s : State} {c : Bool} (f : State → State) (h : c = true) : onlyIf c f s = f s := by rw [h]; rfl
@[simp] theorem goOn_eq : goOn s = .next s := rfl
@[simp] theorem forEach_nil {α : Type} (f : α → State → State) : forEach [] f s = s := rfl
@[simp] theorem forEach_cons {α : Type} (a : α) (l : List α) (f : α → State → State) :
    forEach (a :: l) f s = forEach l f (f a s) := rfl

end Sys2Proof.Machine
end

