-- ==== Sys2Proof/Laws/Access.lean ====
section
/-!
SUPPORT. What a row that names one register or one indirect word does when the access takes place: the gates of the
register map once, for every such row.
-/

namespace Sys2Proof.Machine

theorem accessed_eq (path : Path) (f : State → State) (s : State) :
    accessed path f s = accessed path (fun _ => f (shown path s)) s := rfl

/-- Two effects that agree on the state the write acts on leave the same. -/
theorem accessed_congr {path : Path} {f g : State → State} {s : State} (h : f (shown path s) = g (shown path s)) :
    accessed path f s = accessed path g s := by
  cases path <;> simp only [accessed, h]

theorem mayAccess_clocked {path : Path} {s : State} (h : mayAccess path s = true) : clocked s = true := by
  simp only [mayAccess, Bool.and_eq_true] at h; exact h.1.1

theorem mayAccess_phase {path : Path} {s : State} (h : mayAccess path s = true) : s.pwr.phase ≠ .rest := by
  simp only [mayAccess, Bool.and_eq_true, decide_eq_true_eq] at h; exact h.1.2

theorem mayAccess_usb {s : State} (h : mayAccess .usb s = true) :
    s.hub.pullup = true ∧ s.hub.susp = false ∧ s.hub.addr ≠ 0 ∧ s.usb.mode = 2 := by
  simp only [mayAccess, Bool.and_eq_true, decide_eq_true_eq, Bool.not_eq_true'] at h; exact ⟨h.2.1.1.1, h.2.1.1.2, h.2.1.2, h.2.2⟩

/-- A tally frame that does not find the device in REST wakes nothing. -/
theorem tallyFall_eq {s : State} (h : s.pwr.phase ≠ .rest) : tallyFall s = shown .tally s := by
  simp [tallyFall, wakeUp, settleStby, shown, State.onTally, State.onStby, h]

theorem finishTally_ok (s : State) : finishTally .ok s = { s with tally := { s.tally with last := .ok } } := by
  simp [finishTally, State.onTally]

theorem vendor_of {s : State} {f : State → State} (h : mayAccess .usb s = true) :
    vendor true f s = f (shown .usb s) := by
  obtain ⟨a, b, c, d⟩ := mayAccess_usb h
  have c' : addressed s = true := by simpa [addressed] using c
  simp [vendor, usbUp, a, b, c', d, mayAccess_clocked h, shown, settleStby, State.onStby, State.onUsb]

theorem ack_finish_ok (s0 s : State) : endWrite s0 .ok s =
    { s with usb := { s.usb with
        last := .ok, wrote := s.usb.wrote || changed s0 s, active := false, resp := ⟨.ack, [], []⟩ } } := by
  simp [endWrite, refusing, ack, answer, finishUsb, State.onUsb]

/-- A row of an indirect word whose gate is open, with an empty write buffer, does the word's effect. -/
theorem rowInd_ok {path : Path} {a : Nat} {v : W} {s : State} (h : mayAccess path s = true)
    (w : (s.win path).wbuf = none) (g : indGate (shown path s) path a = .ok) :
    rowInd path a v s = accessed path (indEffect a v) s := by
  cases path with
  | tally =>
    have c := mayAccess_clocked h
    have p := mayAccess_phase h
    have p' : decide ((shown .tally s).pwr.phase = .rest) = false := decide_eq_false p
    have w' : (shown .tally s).tWin.wbuf = none := w
    simp only [rowInd, c, tallyFall_eq p, Bool.not_true, Bool.false_eq_true, if_false, p', w', Option.isSome_none, Bool.or_false,
      indWrite, g, if_true, finishTally_ok]
    rfl
  | usb =>
    have w' : (shown .usb s).uWin.wbuf = none := w
    simp only [rowInd, vendor_of h, w', Option.isSome_none, Bool.false_eq_true, if_false, indWrite, g, if_true, ack_finish_ok]
    rfl

/-- A row of a direct register whose gate is open does the register's effect; IWD and a soft reset apart. -/
theorem rowWrite_ok {path : Path} {idx : Nat} {v : W} {s : State} (h : mayAccess path s = true) (i5 : idx ≠ 5)
    (i2 : ¬(path = .tally ∧ idx = 2 ∧ v.bits 31 16 = Config.softKey))
    (d : (directValue (shown path s) path idx).isNone = false) (g : regGate (shown path s) path idx v = .ok) :
    rowWrite path idx v s = accessed path (regEffect path idx v) s := by
  cases path with
  | tally =>
    have c := mayAccess_clocked h
    have p := mayAccess_phase h
    have r : regWrite .tally idx v (shown .tally s) = (.ok, regEffect .tally idx v (shown .tally s)) := by
      simp [regWrite, d, i5, g]
    have i2' : (decide (idx = 2) && decide (Outc.ok = .ok) && decide (v.bits 31 16 = Config.softKey)) = false := by
      simpa using i2
    simp only [rowWrite, c, if_true, tallyWrite, tallyFall_eq p, r, finishTally_ok]
    rw [tallyReset, i2']
    rfl
  | usb =>
    have r : regWrite .usb idx v (shown .usb s) = (.ok, regEffect .usb idx v (shown .usb s)) := by
      simp [regWrite, d, i5, g]
    simp only [rowWrite, vendor_of h, usbWriteReg, if_neg i5, r, reduceCtorEq, if_false, ack_finish_ok]
    rfl

end Sys2Proof.Machine
end

