-- ==== Sys2Proof/Laws/Store.lean ====
section
/-!
SUPPORT. The laws of sparse tables and of lists by index: a read after a write, every operation keeps the canonical
form, and lengths and elements of a list after a change by index.
-/

namespace Sys2Proof.Machine

variable {α : Type}

/-! ### Lists by index -/

@[simp] theorem length_updNth (l : List α) (i : Nat) (f : α → α) : (updNth l i f).length = l.length := by
  induction l generalizing i with
  | nil => rfl
  | cons x l ih => cases i <;> simp [updNth, ih]

theorem getD_updNth (l : List α) (i j : Nat) (f : α → α) (d : α) :
    (updNth l i f).getD j d = if i = j ∧ j < l.length then f (l.getD j d) else l.getD j d := by
  induction l generalizing i j with
  | nil => simp [updNth]
  | cons x l ih =>
    cases i <;> cases j <;> simp [updNth]
    simpa using ih _ _

theorem getD_updNth_self (l : List α) (i : Nat) (f : α → α) (d : α) (h : i < l.length) :
    (updNth l i f).getD i d = f (l.getD i d) := by
  rw [getD_updNth]; simp [h]

theorem getD_updNth_ne (l : List α) (i j : Nat) (f : α → α) (d : α) (h : j ≠ i) :
    (updNth l i f).getD j d = l.getD j d := by
  rw [getD_updNth]; simp [Ne.symm h]

/-! ### Sparse tables -/

variable [DecidableEq α] (d : α)

theorem wfFrom_mono {m : Store α} {lo hi : Nat} (h : lo ≤ hi) (w : wfFrom d hi m = true) : wfFrom d lo m = true := by
  cases m with
  | nil => rfl
  | cons e m => obtain ⟨k, v⟩ := e; simp [wfFrom] at w ⊢; exact ⟨⟨by omega, w.1.2⟩, w.2⟩

/-- Below its first address a canonical table reads the default. -/
theorem rdStore_below {m : Store α} {lo a : Nat} (w : wfFrom d lo m = true) (h : a < lo) : rdStore d m a = d := by
  cases m with
  | nil => rfl
  | cons e m =>
    obtain ⟨k, v⟩ := e
    simp [wfFrom] at w
    rw [rdStore, if_neg (by omega), if_pos (by omega)]

/-- A write keeps the canonical form. -/
theorem wfFrom_wrStore {m : Store α} {lo a : Nat} {v : α} (w : wfFrom d lo m = true) (h : lo ≤ a) :
    wfFrom d lo (wrStore d m a v) = true := by
  induction m generalizing lo with
  | nil => rw [wrStore]; split <;> simp_all [wfFrom]
  | cons e m ih =>
    obtain ⟨k, x⟩ := e
    have w0 := w
    simp only [wfFrom, Bool.and_eq_true, decide_eq_true_eq] at w
    rw [wrStore]
    split
    · split
      · exact w0
      · simp only [wfFrom, Bool.and_eq_true, decide_eq_true_eq]
        exact ⟨⟨h, ‹_›⟩, ⟨by omega, w.1.2⟩, w.2⟩
    · split
      · split
        · exact wfFrom_mono d (by omega) w.2
        · simp only [wfFrom, Bool.and_eq_true, decide_eq_true_eq]
          subst_vars
          exact ⟨⟨h, ‹_›⟩, w.2⟩
      · simp only [wfFrom, Bool.and_eq_true, decide_eq_true_eq]
        exact ⟨w.1, ih w.2 (by omega)⟩

theorem wfStore_wrStore {m : Store α} (a : Nat) (v : α) (w : wfStore d m = true) :
    wfStore d (wrStore d m a v) = true := wfFrom_wrStore d w (Nat.zero_le a)

theorem rdFrom_wrStore_self {m : Store α} {lo a : Nat} {v : α} (w : wfFrom d lo m = true) (h : lo ≤ a) :
    rdStore d (wrStore d m a v) a = v := by
  induction m generalizing lo with
  | nil => rw [wrStore]; split <;> simp_all [rdStore]
  | cons e m ih =>
    obtain ⟨k, x⟩ := e
    simp only [wfFrom, Bool.and_eq_true, decide_eq_true_eq] at w
    rw [wrStore]
    split
    · split
      · rw [rdStore, if_neg (by omega), if_pos ‹_›]; exact Eq.symm ‹_›
      · simp [rdStore]
    · split
      · subst_vars
        split
        · rw [rdStore_below d w.2 (by omega)]; exact Eq.symm ‹_›
        · simp [rdStore]
      · rw [rdStore, if_neg (by omega), if_neg (by omega)]
        exact ih w.2 (by omega)

/-- A read after a write to the same address gives the value written. -/
theorem rdStore_wrStore_self {m : Store α} (a : Nat) (v : α) (w : wfStore d m = true) :
    rdStore d (wrStore d m a v) a = v := rdFrom_wrStore_self d w (Nat.zero_le a)

theorem rdFrom_wrStore_ne {m : Store α} {lo a b : Nat} {v : α} (w : wfFrom d lo m = true) (h : b ≠ a) :
    rdStore d (wrStore d m a v) b = rdStore d m b := by
  induction m generalizing lo with
  | nil => rw [wrStore]; split <;> simp [rdStore, Ne.symm h]
  | cons e m ih =>
    obtain ⟨k, x⟩ := e
    simp only [wfFrom, Bool.and_eq_true, decide_eq_true_eq] at w
    rw [wrStore]
    split
    · split
      · rfl
      · rw [rdStore, if_neg (Ne.symm h)]
        split
        · rw [rdStore, if_neg (by omega), if_pos (by omega)]
        · rfl
    · split
      · subst_vars
        split
        · conv_rhs => rw [rdStore, if_neg (Ne.symm h)]
          split
          · rw [rdStore_below d w.2 (by omega)]
          · rfl
        · simp [rdStore, Ne.symm h]
      · rw [rdStore, rdStore, ih w.2]

/-- A write leaves every other address alone. -/
theorem rdStore_wrStore_ne {m : Store α} {a b : Nat} (v : α) (w : wfStore d m = true) (h : b ≠ a) :
    rdStore d (wrStore d m a v) b = rdStore d m b := rdFrom_wrStore_ne d w h

theorem wfFrom_filter {m : Store α} {lo : Nat} (p : Nat × α → Bool) (w : wfFrom d lo m = true) :
    wfFrom d lo (m.filter p) = true := by
  induction m generalizing lo with
  | nil => rfl
  | cons e m ih =>
    obtain ⟨k, x⟩ := e
    simp only [wfFrom, Bool.and_eq_true, decide_eq_true_eq] at w
    rw [List.filter_cons]
    split
    · simp only [wfFrom, Bool.and_eq_true, decide_eq_true_eq]; exact ⟨w.1, ih w.2⟩
    · exact wfFrom_mono d (by omega) (ih w.2)

/-- A part of a canonical table is canonical. -/
theorem wfStore_slice {m : Store α} (lo hi : Nat) (w : wfStore d m = true) : wfStore d (sliceStore m lo hi) = true :=
  wfFrom_filter d _ w

/-- A change of every entry keeps the canonical form. -/
theorem wfStore_map {m : Store α} (f : Nat → α → α) (w : wfStore d m = true) : wfStore d (mapStore d f m) = true := by
  have h : ∀ (l : Store α) (lo : Nat), wfFrom d lo l = true → wfFrom d lo (mapStore d f l) = true := by
    intro l
    induction l with
    | nil => intro lo _; rfl
    | cons e l ih =>
      intro lo w
      obtain ⟨k, x⟩ := e
      simp only [wfFrom, Bool.and_eq_true, decide_eq_true_eq] at w
      have i := ih _ w.2
      simp only [mapStore, List.map_cons] at i ⊢
      rw [List.filter_cons]
      split
      · rename_i h
        simp only [wfFrom, Bool.and_eq_true, decide_eq_true_eq]
        exact ⟨⟨w.1.1, by simpa using h⟩, i⟩
      · exact wfFrom_mono d (by omega) i
  exact h m 0 w

/-! ### The tables of the state -/

/-- A commons word after a write of it. -/
theorem cword_setCword_self (s : State) (a : Nat) (w : CWord) (h : wfStore zeroWord s.mem.commons = true) :
    (s.setCword a w).cword a = w := rdStore_wrStore_self zeroWord a w h
theorem cword_setCword_ne (s : State) {a b : Nat} (w : CWord) (h : wfStore zeroWord s.mem.commons = true) (n : b ≠ a) :
    (s.setCword a w).cword b = s.cword b := rdStore_wrStore_ne zeroWord w h n
theorem entry_onEntry_self (s : State) (i : Nat) (f : Entry → Entry) (h : wfStore noEntry s.mem.ledger = true) :
    (s.onEntry i f).entry i = f (s.entry i) := rdStore_wrStore_self noEntry i _ h
theorem entry_onEntry_ne (s : State) {i j : Nat} (f : Entry → Entry) (h : wfStore noEntry s.mem.ledger = true)
    (n : j ≠ i) : (s.onEntry i f).entry j = s.entry j := rdStore_wrStore_ne noEntry _ h n
theorem sluice_onSluice_self (s : State) (i : Nat) (f : Sluice → Sluice)
    (h : wfStore Sluice.empty s.sluices = true) : (s.onSluice i f).sluice i = f (s.sluice i) :=
  rdStore_wrStore_self Sluice.empty i _ h
theorem sluice_onSluice_ne (s : State) {i j : Nat} (f : Sluice → Sluice)
    (h : wfStore Sluice.empty s.sluices = true) (n : j ≠ i) : (s.onSluice i f).sluice j = s.sluice j :=
  rdStore_wrStore_ne Sluice.empty _ h n
theorem plot_onPlot_self (s : State) (p : Nat) (f : Plot → Plot) (h : p < s.plots.length) :
    (s.onPlot p f).plot p = f (s.plot p) := getD_updNth_self _ _ _ _ h
theorem plot_onPlot_ne (s : State) {p j : Nat} (f : Plot → Plot) (h : j ≠ p) :
    (s.onPlot p f).plot j = s.plot j := getD_updNth_ne _ _ _ _ _ h
theorem port_onPort_self (s : State) (n : Nat) (f : PPort → PPort) (h : n < s.ports.length) :
    (s.onPort n f).port n = f (s.port n) := getD_updNth_self _ _ _ _ h
theorem port_onPort_ne (s : State) {n j : Nat} (f : PPort → PPort) (h : j ≠ n) :
    (s.onPort n f).port j = s.port j := getD_updNth_ne _ _ _ _ _ h
theorem tc_onTc_self (s : State) (t : Nat) (f : TcPort → TcPort) (h : t < s.tcs.length) :
    (s.onTc t f).tc t = f (s.tc t) := getD_updNth_self _ _ _ _ h
theorem cad_onCad_self (s : State) (k : Nat) (f : Stream → Stream) (h : k < s.cads.length) :
    (s.onCad k f).cad k = f (s.cad k) := getD_updNth_self _ _ _ _ h

/-- Memory after reset is canonical. -/
theorem reset_stores_wf :
    wfStore zeroWord State.reset.mem.commons = true ∧ wfStore noEntry State.reset.mem.ledger = true
      ∧ wfStore Sluice.empty State.reset.sluices = true ∧ wfStore 0 State.reset.cfg.space = true := by
  decide

end Sys2Proof.Machine
end

