-- ==== Sys2Proof/Laws/Inv.lean ====
section
/-!
SUPPORT. The invariant under the modifiers of the state: what each asks of the function it applies.
-/

namespace Sys2Proof.Machine

variable {s : State}

/-! ### Parts the invariant says nothing of -/

@[simp] theorem inv_onTick (f : Tick → Tick) : (s.onTick f).Inv ↔ s.Inv := by constructor <;> rintro ⟨⟩ <;> constructor <;> assumption
@[simp] theorem inv_onPwr (f : Pwr → Pwr) : (s.onPwr f).Inv ↔ s.Inv := by constructor <;> rintro ⟨⟩ <;> constructor <;> assumption
@[simp] theorem inv_onTWin (f : Win → Win) : (s.onTWin f).Inv ↔ s.Inv := by constructor <;> rintro ⟨⟩ <;> constructor <;> assumption
@[simp] theorem inv_onUWin (f : Win → Win) : (s.onUWin f).Inv ↔ s.Inv := by constructor <;> rintro ⟨⟩ <;> constructor <;> assumption
@[simp] theorem inv_onUsb (f : UsbAcc → UsbAcc) : (s.onUsb f).Inv ↔ s.Inv := by constructor <;> rintro ⟨⟩ <;> constructor <;> assumption
@[simp] theorem inv_onNvm (f : Nvm → Nvm) : (s.onNvm f).Inv ↔ s.Inv := by constructor <;> rintro ⟨⟩ <;> constructor <;> assumption
@[simp] theorem inv_onCulvs (f : Culvs → Culvs) : (s.onCulvs f).Inv ↔ s.Inv := by constructor <;> rintro ⟨⟩ <;> constructor <;> assumption
@[simp] theorem inv_onTand (f : Tand → Tand) : (s.onTand f).Inv ↔ s.Inv := by constructor <;> rintro ⟨⟩ <;> constructor <;> assumption
@[simp] theorem inv_onAdc (f : Adc → Adc) : (s.onAdc f).Inv ↔ s.Inv := by constructor <;> rintro ⟨⟩ <;> constructor <;> assumption
@[simp] theorem inv_onTap (f : Tap → Tap) : (s.onTap f).Inv ↔ s.Inv := by constructor <;> rintro ⟨⟩ <;> constructor <;> assumption
@[simp] theorem inv_onCulv (c : Nat) (f : Culv → Culv) : (s.onCulv c f).Inv ↔ s.Inv := by simp [State.onCulv]
@[simp] theorem inv_onBus (f : C1Bus → C1Bus) : (s.onBus f).Inv ↔ s.Inv := by simp [State.onBus]
@[simp] theorem inv_took : s.took.Inv ↔ s.Inv := by constructor <;> rintro ⟨⟩ <;> constructor <;> assumption
@[simp] theorem inv_answer (hs : Hs) (ws : List W) (bs : List Byte) : (answer hs ws bs s).Inv ↔ s.Inv := by simp [answer]
@[simp] theorem inv_ack : (ack s).Inv ↔ s.Inv := by simp [ack]
@[simp] theorem inv_nak : (nak s).Inv ↔ s.Inv := by simp [nak]
@[simp] theorem inv_stall : (stall s).Inv ↔ s.Inv := by simp [stall]
@[simp] theorem inv_onWin (p : Path) (f : Win → Win) : (s.onWin p f).Inv ↔ s.Inv := by cases p <;> simp [State.onWin]
theorem inv_free (n : Nat) : State.Inv { s with free := n } ↔ s.Inv := by constructor <;> rintro ⟨⟩ <;> constructor <;> assumption

/-! ### What the invariant gives -/

@[simp] theorem inv_ring (h : s.Inv) : s.hub.ring.length ≤ 64 := h.ring
@[simp] theorem inv_queue (h : s.Inv) : s.hay.queue.length ≤ 64 := h.queue
@[simp] theorem inv_crcCnt (h : s.Inv) : s.tally.crcCnt ≤ 255 := h.crcCnt
@[simp] theorem inv_malCnt (h : s.Inv) : s.tally.malCnt ≤ 255 := h.malCnt
@[simp] theorem inv_commons (h : s.Inv) : wfStore zeroWord s.mem.commons = true := h.commons
@[simp] theorem inv_ledger (h : s.Inv) : wfStore noEntry s.mem.ledger = true := h.ledger
@[simp] theorem inv_sluices (h : s.Inv) : wfStore Sluice.empty s.sluices = true := h.sluices
@[simp] theorem inv_space (h : s.Inv) : wfStore 0#32 s.cfg.space = true := h.space
@[simp] theorem inv_bkp (h : s.Inv) : wfStore 0#32 s.stby.bkp = true := h.bkp
@[simp] theorem inv_sram (h : s.Inv) : wfStore 0#32 s.stby.sram = true := h.sram

/-! ### Parts it constrains -/

@[simp] theorem inv_onPlots (f : List Plot → List Plot) (h : s.Inv) (g : (f s.plots).length = s.plots.length) :
    (s.onPlots f).Inv := by cases h; constructor <;> simp_all
@[simp] theorem inv_onPorts (f : List PPort → List PPort) (h : s.Inv) (g : (f s.ports).length = s.ports.length) :
    (s.onPorts f).Inv := by cases h; constructor <;> simp_all
@[simp] theorem inv_onTcs (f : List TcPort → List TcPort) (h : s.Inv) (g : (f s.tcs).length = s.tcs.length) :
    (s.onTcs f).Inv := by cases h; constructor <;> simp_all
@[simp] theorem inv_onCads (f : List Stream → List Stream) (h : s.Inv) (g : (f s.cads).length = s.cads.length) :
    (s.onCads f).Inv := by cases h; constructor <;> simp_all
@[simp] theorem inv_onPlot (p : Nat) (f : Plot → Plot) (h : s.Inv) : (s.onPlot p f).Inv := by simp [State.onPlot, h]
@[simp] theorem inv_onPort (n : Nat) (f : PPort → PPort) (h : s.Inv) : (s.onPort n f).Inv := by simp [State.onPort, h]
@[simp] theorem inv_onTc (t : Nat) (f : TcPort → TcPort) (h : s.Inv) : (s.onTc t f).Inv := by simp [State.onTc, h]
@[simp] theorem inv_onCad (k : Nat) (f : Stream → Stream) (h : s.Inv) : (s.onCad k f).Inv := by simp [State.onCad, h]
@[simp] theorem inv_onField (f : Field → Field) (h : s.Inv) (g : (f s.field).map.length = s.field.map.length) :
    (s.onField f).Inv := by cases h; constructor <;> simp_all
@[simp] theorem inv_onHub (f : Hub → Hub) (h : s.Inv) (g : (f s.hub).ports.length = s.hub.ports.length)
    (r : (f s.hub).ring.length ≤ 64) : (s.onHub f).Inv := by cases h; constructor <;> simp_all
@[simp] theorem inv_onHubPort (n : Nat) (f : HubPort → HubPort) (h : s.Inv) : (s.onHubPort n f).Inv := by
  simp [State.onHubPort, h, h.ring]
@[simp] theorem inv_onEp (e : Nat) (f : FEp → FEp) (h : s.Inv) : (s.onEp e f).Inv := by simp [State.onEp, h, h.ring]
@[simp] theorem inv_onHay (f : Hay → Hay) (h : s.Inv) (g : (f s.hay).queue.length ≤ 64) : (s.onHay f).Inv := by
  cases h; constructor <;> simp_all
@[simp] theorem inv_raise (e : Event) (h : s.Inv) : (raise e s).Inv := by simp [raise, h, h.queue]
@[simp] theorem inv_raisePlot (p k a : Nat) (h : s.Inv) : (raisePlot p k a s).Inv := by simp [raisePlot, h]
@[simp] theorem inv_raisePort (n k : Nat) (h : s.Inv) : (raisePort n k s).Inv := by simp [raisePort, h]
@[simp] theorem inv_readyItem (p k r : Nat) (h : s.Inv) : (readyItem p k r s).Inv := by simp [readyItem, h]
@[simp] theorem inv_onTally (f : Tally → Tally) (h : s.Inv) (c : (f s.tally).crcCnt ≤ 255) (m : (f s.tally).malCnt ≤ 255) :
    (s.onTally f).Inv := by cases h; constructor <;> simp_all
@[simp] theorem inv_onCfg (f : Cfg → Cfg) (h : s.Inv) (g : wfStore 0 (f s.cfg).space = true) : (s.onCfg f).Inv := by
  cases h; constructor <;> simp_all
@[simp] theorem inv_onStby (f : Stby → Stby) (h : s.Inv) (g : wfStore 0 (f s.stby).bkp = true)
    (r : wfStore 0 (f s.stby).sram = true) : (s.onStby f).Inv := by cases h; constructor <;> simp_all
@[simp] theorem inv_onMem (f : Mem → Mem) (h : s.Inv) (g : wfStore zeroWord (f s.mem).commons = true)
    (r : wfStore noEntry (f s.mem).ledger = true) : (s.onMem f).Inv := by cases h; constructor <;> simp_all
@[simp] theorem inv_onSluices (f : Store Sluice → Store Sluice) (h : s.Inv)
    (g : wfStore Sluice.empty (f s.sluices) = true) : (s.onSluices f).Inv := by cases h; constructor <;> simp_all
@[simp] theorem inv_onSluice (i : Nat) (f : Sluice → Sluice) (h : s.Inv) : (s.onSluice i f).Inv := by
  simp [State.onSluice, h, wfStore_wrStore, h.sluices]
@[simp] theorem inv_onEntry (i : Nat) (f : Entry → Entry) (h : s.Inv) : (s.onEntry i f).Inv := by
  simp [State.onEntry, h, wfStore_wrStore, h.commons, h.ledger]
@[simp] theorem inv_setCword (a : Nat) (w : CWord) (h : s.Inv) : (s.setCword a w).Inv := by
  simp [State.setCword, h, wfStore_wrStore, h.commons, h.ledger]

/-! ### Shapes of definitions -/

@[simp] theorem inv_ite (c : Prop) [Decidable c] (a b : State) :
    (if c then a else b).Inv ↔ (if c then a.Inv else b.Inv) := by split <;> rfl
@[simp] theorem inv_onlyIf (c : Bool) (f : State → State) (h : s.Inv) (g : c = true → (f s).Inv) : (onlyIf c f s).Inv := by
  cases c <;> simp_all
@[simp] theorem inv_forEach {α : Type} (l : List α) (f : α → State → State) (h : s.Inv)
    (g : ∀ a t, t.Inv → (f a t).Inv) : (forEach l f s).Inv := by
  induction l generalizing s with
  | nil => exact h
  | cons a l ih => exact ih (g a s h)

end Sys2Proof.Machine
end

