-- ==== Sys2Proof/Laws/KeepsBase.lean ====
section
/-!
SUPPORT. Every shared operation of sparse tables, sluices, culverts and their requests keeps the invariant of the machine.
-/

namespace Sys2Proof.Machine

set_option linter.all false

variable {s : State}

/-! ### Ops -/

@[simp] theorem inv_stopItem (p : Nat) (hI : s.Inv) : (stopItem p s).Inv := by
  unfold stopItem; (try dsimp only); repeat' split
  all_goals (simp (maxDischargeDepth := 9) +contextual [hI, wfStore_wrStore, wfStore_map, wrW])

@[simp] theorem inv_openEntry (i : Nat) (e : Entry) (hI : s.Inv) : (openEntry i e s).Inv := by simp (maxDischargeDepth := 9) +contextual [openEntry, hI, wfStore_wrStore, wfStore_map, wrW]

@[simp] theorem inv_closeEntry (i : Nat) (r : Close) (hI : s.Inv) : (closeEntry i r s).Inv := by simp (maxDischargeDepth := 9) +contextual [closeEntry, hI, wfStore_wrStore, wfStore_map, wrW]

@[simp] theorem inv_emitted (i : Nat) (hI : s.Inv) : (emitted i s).Inv := by simp (maxDischargeDepth := 9) +contextual [emitted, hI, wfStore_wrStore, wfStore_map, wrW]

@[simp] theorem inv_readCommons (a : Nat) (hI : s.Inv) : (readCommons a s).Inv := by simp (maxDischargeDepth := 9) +contextual [readCommons, hI, wfStore_wrStore, wfStore_map, wrW]

@[simp] theorem inv_writeCommons (a : Nat) (v : W) (poison : Bool) (inj : Bool) (hI : s.Inv) : (writeCommons a v poison inj s).Inv := by simp (maxDischargeDepth := 9) +contextual [writeCommons, hI, wfStore_wrStore, wfStore_map, wrW]

@[simp] theorem inv_correctWord (a : Nat) (hI : s.Inv) : (correctWord a s).Inv := by simp (maxDischargeDepth := 9) +contextual [correctWord, hI, wfStore_wrStore, wfStore_map, wrW]

@[simp] theorem inv_scrubWord (a : Nat) (hI : s.Inv) : (scrubWord a s).Inv := by
  unfold scrubWord; (try dsimp only); repeat' split
  all_goals (simp (maxDischargeDepth := 9) +contextual [hI, wfStore_wrStore, wfStore_map, wrW])

@[simp] theorem inv_takeParcels (p n : Nat) (hI : s.Inv) : (takeParcels p n s).Inv := by
  induction n generalizing s with
  | zero => exact hI
  | succ n ih =>
    unfold takeParcels; split
    · exact hI
    · exact ih (inv_took.mpr (inv_onPlot _ _ hI))

@[simp] theorem inv_giveParcels (p n : Nat) (hI : s.Inv) : (giveParcels p n s).Inv := by simp (maxDischargeDepth := 9) +contextual [giveParcels, hI, wfStore_wrStore, wfStore_map, wrW]

/-! ### SluiceOps -/

@[simp] theorem inv_raiseBound (i kind : Nat) (hI : s.Inv) : (raiseBound i kind s).Inv := by simp (maxDischargeDepth := 9) +contextual [raiseBound, hI, wfStore_wrStore, wfStore_map, wrW]

@[simp] theorem inv_claimSluice (i : Nat) (c : SClaim) (hI : s.Inv) : (claimSluice i c s).Inv := by simp (maxDischargeDepth := 9) +contextual [claimSluice, hI, wfStore_wrStore, wfStore_map, wrW]

@[simp] theorem inv_grantSluice (i : Nat) (hI : s.Inv) : (grantSluice i s).Inv := by
  unfold grantSluice; (try dsimp only); repeat' split
  all_goals (simp (maxDischargeDepth := 9) +contextual [hI, wfStore_wrStore, wfStore_map, wrW])

@[simp] theorem inv_disarm (hI : s.Inv) : (disarm s).Inv := by simp (maxDischargeDepth := 9) +contextual [disarm, hI, wfStore_wrStore, wfStore_map, wrW]

@[simp] theorem inv_writeSluice (i : Nat) (x : SWrite) (hI : s.Inv) : (writeSluice i x s).Inv := by
  unfold writeSluice; (try dsimp only); repeat' split
  all_goals (simp (maxDischargeDepth := 9) +contextual [hI, wfStore_wrStore, wfStore_map, wrW])

@[simp] theorem inv_takeSluice (i : Nat) (hI : s.Inv) : (takeSluice i s).Inv := by
  unfold takeSluice; (try dsimp only); repeat' split
  all_goals (simp (maxDischargeDepth := 9) +contextual [hI, wfStore_wrStore, wfStore_map, wrW])

@[simp] theorem inv_takeWords (i n : Nat) (hI : s.Inv) : (takeWords i n s).Inv := by simp (maxDischargeDepth := 9) +contextual [takeWords, hI, wfStore_wrStore, wfStore_map, wrW]

@[simp] theorem inv_dropSluice (i : Nat) (hI : s.Inv) : (dropSluice i s).Inv := by simp (maxDischargeDepth := 9) +contextual [dropSluice, hI, wfStore_wrStore, wfStore_map, wrW]

@[simp] theorem inv_settleSluices (p : Nat) (hI : s.Inv) : (settleSluices p s).Inv := by simp (maxDischargeDepth := 9) +contextual [settleSluices, hI, wfStore_wrStore, wfStore_map, wrW]

@[simp] theorem inv_rollSluices (p : Nat) (hI : s.Inv) : (rollSluices p s).Inv := by simp (maxDischargeDepth := 9) +contextual [rollSluices, hI, wfStore_wrStore, wfStore_map, wrW]

@[simp] theorem inv_rewindPeer (peer : Nat → Bool) (hI : s.Inv) : (rewindPeer peer s).Inv := by simp (maxDischargeDepth := 9) +contextual [rewindPeer, hI, wfStore_wrStore, wfStore_map, wrW]

@[simp] theorem inv_seizeSluices (p : Nat) (hI : s.Inv) : (seizeSluices p s).Inv := by simp (maxDischargeDepth := 9) +contextual [seizeSluices, hI, wfStore_wrStore, wfStore_map, wrW]

@[simp] theorem inv_freeSluices (p : Nat) (hI : s.Inv) : (freeSluices p s).Inv := by simp (maxDischargeDepth := 9) +contextual [freeSluices, hI, wfStore_wrStore, wfStore_map, wrW]

/-! ### Frames -/

@[simp] theorem inv_sendNow (f : TFrame) (hI : s.Inv) : (sendNow f s).Inv := by simp (maxDischargeDepth := 9) +contextual [sendNow, hI, wfStore_wrStore, wfStore_map, wrW]

@[simp] theorem inv_sendFrame (f : TFrame) (hI : s.Inv) : (sendFrame f s).Inv := by simp (maxDischargeDepth := 9) +contextual [sendFrame, hI, wfStore_wrStore, wfStore_map, wrW]

@[simp] theorem inv_sendWaiting (l : List TFrame) (hI : s.Inv) : (sendWaiting l s).Inv := by
  induction l generalizing s with
  | nil => exact hI
  | cons f l ih =>
    unfold sendWaiting; split
    · exact ih (by simp [hI])
    · exact hI

@[simp] theorem inv_resendFrames (hI : s.Inv) : (resendFrames s).Inv := by simp (maxDischargeDepth := 9) +contextual [resendFrames, hI, wfStore_wrStore, wfStore_map, wrW]

/-! ### CulvOps -/

@[simp] theorem inv_fillIn (e : Nat) (hI : s.Inv) : (fillIn e s).Inv := by simp (maxDischargeDepth := 9) +contextual [fillIn, hI, wfStore_wrStore, wfStore_map, wrW]

@[simp] theorem inv_readyEp (e : Nat) (hI : s.Inv) : (readyEp e s).Inv := by
  unfold readyEp; (try dsimp only); repeat' split
  all_goals (simp (maxDischargeDepth := 9) +contextual [hI, wfStore_wrStore, wfStore_map, wrW])

@[simp] theorem inv_pushIn (e : Nat) (ws : List W) (hI : s.Inv) : (pushIn e ws s).Inv := by simp (maxDischargeDepth := 9) +contextual [pushIn, hI, wfStore_wrStore, wfStore_map, wrW]

@[simp] theorem inv_giveResult (o : COp) (ws : List W) (hI : s.Inv) : (giveResult o ws s).Inv := by simp (maxDischargeDepth := 9) +contextual [giveResult, hI, wfStore_wrStore, wfStore_map, wrW]

@[simp] theorem inv_giveSample (o : COp) (r : Close) (hI : s.Inv) : (giveSample o r s).Inv := by simp (maxDischargeDepth := 9) +contextual [giveSample, hI, wfStore_wrStore, wfStore_map, wrW]

@[simp] theorem inv_onOp (c id : Nat) (f : COp → COp) (hI : s.Inv) : (onOp c id f s).Inv := by
  unfold onOp; (try dsimp only); repeat' split
  all_goals (simp (maxDischargeDepth := 9) +contextual [hI, wfStore_wrStore, wfStore_map, wrW])

@[simp] theorem inv_dropOp (c id : Nat) (hI : s.Inv) : (dropOp c id s).Inv := by simp (maxDischargeDepth := 9) +contextual [dropOp, hI, wfStore_wrStore, wfStore_map, wrW]

@[simp] theorem inv_settleLock (c : Nat) (hI : s.Inv) : (settleLock c s).Inv := by simp (maxDischargeDepth := 9) +contextual [settleLock, hI, wfStore_wrStore, wfStore_map, wrW]

@[simp] theorem inv_raiseCulv (c kind addr : Nat) (hI : s.Inv) : (raiseCulv c kind addr s).Inv := by
  unfold raiseCulv; (try dsimp only); repeat' split
  all_goals (simp (maxDischargeDepth := 9) +contextual [hI, wfStore_wrStore, wfStore_map, wrW])

@[simp] theorem inv_noteFar (c a detail : Nat) (hI : s.Inv) : (noteFar c a detail s).Inv := by simp (maxDischargeDepth := 9) +contextual [noteFar, hI, wfStore_wrStore, wfStore_map, wrW]

@[simp] theorem inv_closeEvent (c : Nat) (o : COp) (r : Close) (a : Nat) (hI : s.Inv) : (closeEvent c o r a s).Inv := by
  unfold closeEvent; (try dsimp only); repeat' split
  all_goals (simp (maxDischargeDepth := 9) +contextual [hI, wfStore_wrStore, wfStore_map, wrW])

@[simp] theorem inv_countClose (c : Nat) (r : Close) (hI : s.Inv) : (countClose c r s).Inv := by simp (maxDischargeDepth := 9) +contextual [countClose, hI, wfStore_wrStore, wfStore_map, wrW]

@[simp] theorem inv_closeOne (c : Nat) (o : COp) (r : Close) (detail a : Nat) (pref : Bool) (hI : s.Inv) : (closeOne c o r detail a pref s).Inv := by
  unfold closeOne; (try dsimp only); repeat' split
  all_goals (simp (maxDischargeDepth := 9) +contextual [hI, wfStore_wrStore, wfStore_map, wrW])

@[simp] theorem inv_closeLone (c id : Nat) (r : Close) (hI : s.Inv) : (closeLone c id r s).Inv := by
  unfold closeLone; (try dsimp only); repeat' split
  all_goals (simp (maxDischargeDepth := 9) +contextual [hI, wfStore_wrStore, wfStore_map, wrW])

@[simp] theorem inv_closeOp (c : Nat) (o : COp) (r : Close) (detail a : Nat) (pref : Bool) (hI : s.Inv) : (closeOp c o r detail a pref s).Inv := by simp (maxDischargeDepth := 9) +contextual [closeOp, hI, wfStore_wrStore, wfStore_map, wrW]

@[simp] theorem inv_endOp (c : Nat) (o : COp) (hI : s.Inv) : (endOp c o s).Inv := by simp (maxDischargeDepth := 9) +contextual [endOp, hI, wfStore_wrStore, wfStore_map, wrW]

@[simp] theorem inv_dropBufs (hit : Nat → Bool) (hI : s.Inv) : (dropBufs s hit).Inv := by simp (maxDischargeDepth := 9) +contextual [dropBufs, hI, wfStore_wrStore, wfStore_map, wrW]

@[simp] theorem inv_dropAllBufs (hI : s.Inv) : (dropAllBufs s).Inv := by simp (maxDischargeDepth := 9) +contextual [dropAllBufs, hI, wfStore_wrStore, wfStore_map, wrW]

@[simp] theorem inv_touchQuiet (a n : Nat) (hI : s.Inv) : (touchQuiet a n s).Inv := by simp (maxDischargeDepth := 9) +contextual [touchQuiet, hI, wfStore_wrStore, wfStore_map, wrW]

@[simp] theorem inv_wantPrefetch (o : COp) (hI : s.Inv) : (wantPrefetch o s).Inv := by
  unfold wantPrefetch; (try dsimp only); repeat' split
  all_goals (simp (maxDischargeDepth := 9) +contextual [hI, wfStore_wrStore, wfStore_map, wrW])

@[simp] theorem inv_nullCycle (hI : s.Inv) : (nullCycle s).Inv := by simp (maxDischargeDepth := 9) +contextual [nullCycle, hI, wfStore_wrStore, wfStore_map, wrW]

@[simp] theorem inv_cancelWaiting (c : Nat) (o : COp) (hI : s.Inv) : (cancelWaiting c o s).Inv := by simp (maxDischargeDepth := 9) +contextual [cancelWaiting, hI, wfStore_wrStore, wfStore_map, wrW]

@[simp] theorem inv_cancelOp (c : Nat) (o : COp) (hI : s.Inv) : (cancelOp c o s).Inv := by
  unfold cancelOp; (try dsimp only); repeat' split
  all_goals (simp (maxDischargeDepth := 9) +contextual [hI, wfStore_wrStore, wfStore_map, wrW])

@[simp] theorem inv_cancelOps (mute : Bool) (f : COp → Bool) (hI : s.Inv) : (cancelOps mute f s).Inv := by
  unfold cancelOps
  refine inv_forEach _ _ hI (fun c t ht => inv_forEach _ _ (by simp [ht]) (fun i u hu => ?_))
  split <;> simp [hu]

@[simp] theorem inv_poisonOps (f : Nat → COp → Bool) (hI : s.Inv) : (poisonOps f s).Inv := by simp (maxDischargeDepth := 9) +contextual [poisonOps, hI, wfStore_wrStore, wfStore_map, wrW]

@[simp] theorem inv_closeFwd (mute : Bool) (id : Nat) (r : Close) (detail : Nat) (hI : s.Inv) : (closeFwd mute id r detail s).Inv := by
  unfold closeFwd; (try dsimp only); repeat' split
  all_goals (simp (maxDischargeDepth := 9) +contextual [hI, wfStore_wrStore, wfStore_map, wrW])

@[simp] theorem inv_unstage (id : Nat) (hI : s.Inv) : (unstage id s).Inv := by simp (maxDischargeDepth := 9) +contextual [unstage, hI, wfStore_wrStore, wfStore_map, wrW]

@[simp] theorem inv_poisonLone (e : Nat × Entry) (hI : s.Inv) : (poisonLone e s).Inv := by simp (maxDischargeDepth := 9) +contextual [poisonLone, hI, wfStore_wrStore, wfStore_map, wrW]

@[simp] theorem inv_poisonCulv (c : Nat) (hI : s.Inv) : (poisonCulv c s).Inv := by simp (maxDischargeDepth := 9) +contextual [poisonCulv, hI, wfStore_wrStore, wfStore_map, wrW]

@[simp] theorem inv_releaseC1 (hI : s.Inv) : (releaseC1 s).Inv := by simp (maxDischargeDepth := 9) +contextual [releaseC1, hI, wfStore_wrStore, wfStore_map, wrW]

@[simp] theorem inv_freeSems (f : Sem → Bool) (c : Nat) (hI : s.Inv) : (freeSems f c s).Inv := by simp (maxDischargeDepth := 9) +contextual [freeSems, hI, wfStore_wrStore, wfStore_map, wrW]

/-! ### ReqOps -/

@[simp] theorem inv_tell (a : Asker) (ws : List W) (hI : s.Inv) : (tell a ws s).Inv := by simp (maxDischargeDepth := 9) +contextual [tell, hI, wfStore_wrStore, wfStore_map, wrW]

@[simp] theorem inv_reject (a : Asker) (detail : Nat) (r : Req) (hI : s.Inv) : (reject a detail r s).Inv := by simp (maxDischargeDepth := 9) +contextual [reject, hI, wfStore_wrStore, wfStore_map, wrW]

@[simp] theorem inv_doneOk (a : Asker) (r : Req) (hI : s.Inv) : (doneOk a r s).Inv := by simp (maxDischargeDepth := 9) +contextual [doneOk, hI, wfStore_wrStore, wfStore_map, wrW]

@[simp] theorem inv_readyWork (o : Option Nat) (kind ref : Nat) (hI : s.Inv) : (readyWork o kind ref s).Inv := by
  unfold readyWork; (try dsimp only); repeat' split
  all_goals (simp (maxDischargeDepth := 9) +contextual [hI, wfStore_wrStore, wfStore_map, wrW])

@[simp] theorem inv_feedOp (c id : Nat) (hI : s.Inv) : (feedOp c id s).Inv := by
  unfold feedOp; (try dsimp only); repeat' split
  all_goals (simp (maxDischargeDepth := 9) +contextual [hI, wfStore_wrStore, wfStore_map, wrW])

@[simp] theorem inv_passOp (id : Nat) (hI : s.Inv) : (passOp id s).Inv := by
  unfold passOp; (try dsimp only); repeat' split
  all_goals (simp (maxDischargeDepth := 9) +contextual [hI, wfStore_wrStore, wfStore_map, wrW])

@[simp] theorem inv_readyOp (o : COp) (hI : s.Inv) : (readyOp o s).Inv := by simp (maxDischargeDepth := 9) +contextual [readyOp, hI, wfStore_wrStore, wfStore_map, wrW]

theorem inv_acceptOp (a : Asker) (chain : Nat) (r : Req) (hI : s.Inv) (t : State) (e : acceptOp a chain r s = some t) : t.Inv := by
  unfold acceptOp at e
  (try dsimp only at e)
  repeat' split at e
  all_goals simp at e
  all_goals subst e
  all_goals (try split) <;> simp (maxDischargeDepth := 12) +contextual [hI]

@[simp] theorem inv_semAcquire (a : Asker) (r : Req) (hI : s.Inv) : (semAcquire a r s).Inv := by simp (maxDischargeDepth := 9) +contextual [semAcquire, hI, wfStore_wrStore, wfStore_map, wrW]

@[simp] theorem inv_semRelease (a : Asker) (r : Req) (hI : s.Inv) : (semRelease a r s).Inv := by simp (maxDischargeDepth := 9) +contextual [semRelease, hI, wfStore_wrStore, wfStore_map, wrW]

@[simp] theorem inv_cancelTag (a : Asker) (r : Req) (hI : s.Inv) : (cancelTag a r s).Inv := by simp (maxDischargeDepth := 9) +contextual [cancelTag, hI, wfStore_wrStore, wfStore_map, wrW]

@[simp] theorem inv_flushFwd (l : List (Nat × TClass × List W)) (hI : s.Inv) : (flushFwd l s).Inv := by
  induction l generalizing s with
  | nil => exact hI
  | cons f l ih =>
    unfold flushFwd; split
    · exact ih (by simp [hI])
    · exact hI

@[simp] theorem inv_queueFwd (id : Nat) (cls : TClass) (ws : List W) (hI : s.Inv) : (queueFwd id cls ws s).Inv := by simp (maxDischargeDepth := 9) +contextual [queueFwd, hI, wfStore_wrStore, wfStore_map, wrW]

@[simp] theorem inv_cancelFwd (a : Asker) (r : Req) (hI : s.Inv) : (cancelFwd a r s).Inv := by simp (maxDischargeDepth := 9) +contextual [cancelFwd, hI, wfStore_wrStore, wfStore_map, wrW]

theorem inv_forwardReq (a : Asker) (r : Req) (hI : s.Inv) (t : State) (e : forwardReq a r s = some t) : t.Inv := by
  unfold forwardReq at e
  dsimp only at e
  repeat' split at e
  all_goals simp at e
  all_goals subst e
  all_goals (try split) <;> simp (maxDischargeDepth := 9) [hI]

@[simp] theorem inv_cancelReq (a : Asker) (r : Req) (hI : s.Inv) : (cancelReq a r s).Inv := by simp (maxDischargeDepth := 9) +contextual [cancelReq, hI, wfStore_wrStore, wfStore_map, wrW]

theorem inv_takeReq (a : Asker) (r : Req) (hI : s.Inv) (t : State) (e : takeReq a r s = some t) : t.Inv := by
  unfold takeReq at e
  repeat' split at e
  all_goals first | exact inv_forwardReq _ _ hI _ e | exact inv_acceptOp _ _ _ hI _ e | (simp at e; subst e; simp (maxDischargeDepth := 9) [hI])

theorem inv_takeAll {α : Type} (f : α → State → Option State) (g : ∀ a s t, s.Inv → f a s = some t → t.Inv) (l : List α)
    (hI : s.Inv) (t : State) (e : takeAll f l s = some t) : t.Inv := by
  induction l generalizing s with
  | nil => simp [takeAll] at e; exact e ▸ hI
  | cons a l ih =>
    unfold takeAll at e
    split at e
    · exact ih (g _ _ _ hI ‹_›) e
    · cases e

theorem inv_takeGroup (g : List (Asker × Req)) (hI : s.Inv) (t : State) (e : takeGroup g s = some t) : t.Inv := by
  unfold takeGroup at e
  dsimp only at e
  repeat' split at e
  · exact inv_takeAll _ (fun a s t h => inv_takeReq _ _ h t) _ hI _ e
  · simp at e; subst e; simp +contextual [hI]
  · exact inv_takeAll _ (fun a s t h => inv_forwardReq _ _ h t) _ hI _ e
  · exact inv_takeAll _ (fun a s t h => inv_acceptOp _ _ _ h t) _ (by simp [hI]) _ e

theorem inv_if (c : Prop) [Decidable c] (a b : State) (x : c → a.Inv) (y : ¬c → b.Inv) : (if c then a else b).Inv := by
  split
  · exact x ‹_›
  · exact y ‹_›

@[simp] theorem inv_hostRequest (spate poison : Bool) (ws : List W) (hI : s.Inv) : (hostRequest spate poison ws s).Inv := by
  unfold hostRequest
  dsimp only
  split
  · simp [hI]
  · refine inv_if _ _ _ (fun _ => by simp [hI]) (fun _ => ?_)
    generalize hG : takeAll _ _ s = o
    cases o with
    | none => simp [hI]
    | some s1 =>
      have h1 : s1.Inv := inv_takeAll _ (fun g s t h => inv_takeGroup _ h t) _ hI _ hG
      generalize readStream _ _ = x
      obtain ⟨x1, x2, x3, x4, x5⟩ := x
      cases x3 <;> simp (maxDischargeDepth := 12) +contextual [h1]

/-! ### Culverts -/

@[simp] theorem inv_putOnWire (c : Nat) (o : COp) (cycle : Nat) (hI : s.Inv) : (putOnWire c o cycle s).Inv := by simp (maxDischargeDepth := 9) +contextual [putOnWire, hI, wfStore_wrStore, wfStore_map, wrW]

@[simp] theorem inv_fillBuf (o : COp) (hI : s.Inv) : (fillBuf o s).Inv := by simp (maxDischargeDepth := 9) +contextual [fillBuf, hI, wfStore_wrStore, wfStore_map, wrW]

theorem inv_tookPhases (cut : Bool) (o : COp) (ps : List C1Phase) (hI : s.Inv) :
    (tookPhases cut o ps s).2.2.Inv := by
  unfold tookPhases; (try dsimp only); repeat' split
  all_goals simp (maxDischargeDepth := 9) +contextual [hI]

@[simp] theorem inv_farEnd (o : COp) (hI : s.Inv) : (farEnd o s).Inv := by simp (maxDischargeDepth := 9) +contextual [farEnd, hI, wfStore_wrStore, wfStore_map, wrW]

@[simp] theorem inv_endBurst (o : COp) (bad : Bool) (hI : s.Inv) : (endBurst o bad s).Inv := by simp (maxDischargeDepth := 9) +contextual [endBurst, hI, wfStore_wrStore, wfStore_map, wrW]

theorem inv_openPrefetch (i : Nat) (fed : Bool) (hI : s.Inv) : (openPrefetch i fed s).2.Inv := by
  unfold openPrefetch; (try dsimp only); repeat' split
  all_goals simp (maxDischargeDepth := 9) +contextual [hI]

@[simp] theorem inv_prefetchOn (o : COp) (ps : List C1Phase) (hI : s.Inv) : (prefetchOn o ps s).Inv := by
  unfold prefetchOn; (try dsimp only); split
  · exact hI
  · rename_i i _
    split
    · exact hI
    · have h1 := inv_openPrefetch i true hI
      generalize openPrefetch i true s = t at h1
      obtain ⟨x, u⟩ := t
      cases x with
      | none => exact h1
      | some x => exact inv_endBurst _ _ (inv_tookPhases _ _ _ (by simp [show u.Inv from h1]))

@[simp] theorem inv_setSer (c : Nat) (v : SerSt) (hI : s.Inv) : (setSer c v s).Inv := by simp (maxDischargeDepth := 9) +contextual [setSer, hI, wfStore_wrStore, wfStore_map, wrW]

@[simp] theorem inv_frameOk (c : Nat) (o : COp) (hI : s.Inv) : (frameOk c o s).Inv := by simp (maxDischargeDepth := 9) +contextual [frameOk, hI, wfStore_wrStore, wfStore_map, wrW]

@[simp] theorem inv_attemptFailed (c : Nat) (o : COp) (d : Nat) (hI : s.Inv) : (attemptFailed c o d s).Inv := by simp (maxDischargeDepth := 9) +contextual [attemptFailed, hI, wfStore_wrStore, wfStore_map, wrW]

@[simp] theorem inv_forwardTimeout (id : Nat) (hI : s.Inv) : (forwardTimeout id s).Inv := by
  unfold forwardTimeout; (try dsimp only); repeat' split
  all_goals (simp (maxDischargeDepth := 9) +contextual [hI, wfStore_wrStore, wfStore_map, wrW])

@[simp] theorem inv_stagedTimeout (id : Nat) (hI : s.Inv) : (stagedTimeout id s).Inv := by simp (maxDischargeDepth := 9) +contextual [stagedTimeout, hI, wfStore_wrStore, wfStore_map, wrW]

end Sys2Proof.Machine
end

