-- ==== Sys2Proof/Laws/KeepsParts.lean ====
section
/-!
SUPPORT. Every shared operation of ports, the field, the Hayward, resets, PD and supplies keeps the invariant of the machine.
-/

namespace Sys2Proof.Machine

set_option linter.all false

variable {s : State}

/-! ### PortOps -/

@[simp] theorem inv_closeSplit (sp : Split) (r : Close) (hI : s.Inv) : (closeSplit sp r s).Inv := by
  unfold closeSplit; (try dsimp only); repeat' split
  all_goals (simp (maxDischargeDepth := 9) +contextual [hI, wfStore_wrStore, wfStore_map, wrW])

@[simp] theorem inv_dropSplit (x : Split) (hI : s.Inv) : (dropSplit x s).Inv := by simp (maxDischargeDepth := 9) +contextual [dropSplit, hI, wfStore_wrStore, wfStore_map, wrW]

@[simp] theorem inv_dropPortSplits (n : Nat) (hI : s.Inv) : (dropPortSplits n s).Inv := by simp (maxDischargeDepth := 9) +contextual [dropPortSplits, hI, wfStore_wrStore, wfStore_map, wrW]

@[simp] theorem inv_hubOff (oc : Bool) (n : Nat) (hI : s.Inv) : (hubOff oc n s).Inv := by simp (maxDischargeDepth := 9) +contextual [hubOff, hI, wfStore_wrStore, wfStore_map, wrW]

@[simp] theorem inv_setEvt (k : Nat) (n : Nat) (hI : s.Inv) : (setEvt k n s).Inv := by simp (maxDischargeDepth := 9) +contextual [setEvt, hI, wfStore_wrStore, wfStore_map, wrW]

@[simp] theorem inv_enterPower (v : PState) (n : Nat) (hI : s.Inv) : (enterPower v n s).Inv := by simp (maxDischargeDepth := 9) +contextual [enterPower, hI, wfStore_wrStore, wfStore_map, wrW]

@[simp] theorem inv_dischargePort (oc : Bool) (n : Nat) (hI : s.Inv) : (dischargePort oc n s).Inv := by simp (maxDischargeDepth := 9) +contextual [dischargePort, hI, wfStore_wrStore, wfStore_map, wrW]

@[simp] theorem inv_vconnOpen (t : Nat) (hI : s.Inv) : (vconnOpen t s).Inv := by simp (maxDischargeDepth := 9) +contextual [vconnOpen, hI, wfStore_wrStore, wfStore_map, wrW]

@[simp] theorem inv_safePort (n : Nat) (hI : s.Inv) : (safePort n s).Inv := by simp (maxDischargeDepth := 9) +contextual [safePort, hI, wfStore_wrStore, wfStore_map, wrW]

@[simp] theorem inv_adcFlush (p : Nat) (hI : s.Inv) : (adcFlush p s).Inv := by
  unfold adcFlush; (try dsimp only); repeat' split
  all_goals (simp (maxDischargeDepth := 9) +contextual [hI, wfStore_wrStore, wfStore_map, wrW])

theorem inv_popSet (p : Nat) (hI : s.Inv) (l : List (BitVec 12)) (b : Bool) (t : State)
    (e : popSet p s = some (l, b, t)) : t.Inv := by
  unfold popSet at e
  obtain ⟨k, _, hk⟩ := Option.map_eq_some_iff.mp e
  cases hk
  simp [hI]

@[simp] theorem inv_adcWrite (p : Nat) (ws : List (BitVec 12)) (hI : s.Inv) : (adcWrite p ws s).Inv := by simp (maxDischargeDepth := 9) +contextual [adcWrite, hI, wfStore_wrStore, wfStore_map, wrW]

/-! ### FieldOps -/

@[simp] theorem inv_setMap (f : Nat) (v : FMap) (hI : s.Inv) : (setMap f v s).Inv := by simp (maxDischargeDepth := 9) +contextual [setMap, hI, wfStore_wrStore, wfStore_map, wrW]

@[simp] theorem inv_abortShadow (hI : s.Inv) : (abortShadow s).Inv := by
  unfold abortShadow; (try dsimp only); repeat' split
  all_goals (simp (maxDischargeDepth := 9) +contextual [hI, wfStore_wrStore, wfStore_map, wrW])

@[simp] theorem inv_beginShadow (why : ShadowWhy) (p : Nat) (newWc : Store W) (hI : s.Inv) : (beginShadow why p newWc s).Inv := by
  unfold beginShadow; (try dsimp only); repeat' split
  all_goals (simp (maxDischargeDepth := 9) +contextual [hI, wfStore_wrStore, wfStore_map, wrW])

@[simp] theorem inv_swapShadow (h : Shadow) (hI : s.Inv) : (swapShadow h s).Inv := by
  unfold swapShadow; (try dsimp only); repeat' split
  all_goals (simp (maxDischargeDepth := 9) +contextual [hI, wfStore_wrStore, wfStore_map, wrW])

@[simp] theorem inv_stickUpdate (p : Nat) (hI : s.Inv) : (stickUpdate p s).Inv := by simp (maxDischargeDepth := 9) +contextual [stickUpdate, hI, wfStore_wrStore, wfStore_map, wrW]

@[simp] theorem inv_dropUpdate (p : Nat) (hI : s.Inv) : (dropUpdate p s).Inv := by
  unfold dropUpdate; (try dsimp only); repeat' split
  all_goals (simp (maxDischargeDepth := 9) +contextual [hI, wfStore_wrStore, wfStore_map, wrW])

@[simp] theorem inv_dropUpdates (hI : s.Inv) : (dropUpdates s).Inv := by simp (maxDischargeDepth := 9) +contextual [dropUpdates, hI, wfStore_wrStore, wfStore_map, wrW]

@[simp] theorem inv_endFence (hI : s.Inv) : (endFence s).Inv := by simp (maxDischargeDepth := 9) +contextual [endFence, hI, wfStore_wrStore, wfStore_map, wrW]

@[simp] theorem inv_settleOpen (hI : s.Inv) : (settleOpen s).Inv := by simp (maxDischargeDepth := 9) +contextual [settleOpen, hI, wfStore_wrStore, wfStore_map, wrW]

@[simp] theorem inv_failFurrow (tested : Bool) (f : Nat) (hI : s.Inv) : (failFurrow tested f s).Inv := by simp (maxDischargeDepth := 9) +contextual [failFurrow, hI, wfStore_wrStore, wfStore_map, wrW]

@[simp] theorem inv_applyCad (p : Nat) (fresh : Bool) (hI : s.Inv) : (applyCad p fresh s).Inv := by simp (maxDischargeDepth := 9) +contextual [applyCad, hI, wfStore_wrStore, wfStore_map, wrW]

@[simp] theorem inv_setPd (k t : Nat) (hI : s.Inv) : (setPd k t s).Inv := by simp (maxDischargeDepth := 9) +contextual [setPd, hI, wfStore_wrStore, wfStore_map, wrW]

@[simp] theorem inv_tcRequest (t : Nat) (on : Bool) (hI : s.Inv) : (tcRequest t on s).Inv := by simp (maxDischargeDepth := 9) +contextual [tcRequest, hI, wfStore_wrStore, wfStore_map, wrW]

@[simp] theorem inv_enterTc (v : TcSt) (t : Nat) (hI : s.Inv) : (enterTc v t s).Inv := by simp (maxDischargeDepth := 9) +contextual [enterTc, hI, wfStore_wrStore, wfStore_map, wrW]

@[simp] theorem inv_leaveAttached (t : Nat) (hI : s.Inv) : (leaveAttached t s).Inv := by simp (maxDischargeDepth := 9) +contextual [leaveAttached, hI, wfStore_wrStore, wfStore_map, wrW]

@[simp] theorem inv_rpOff (t : Nat) (hI : s.Inv) : (rpOff t s).Inv := by simp (maxDischargeDepth := 9) +contextual [rpOff, hI, wfStore_wrStore, wfStore_map, wrW]

@[simp] theorem inv_tcUnattached (t : Nat) (hI : s.Inv) : (tcUnattached t s).Inv := by simp (maxDischargeDepth := 9) +contextual [tcUnattached, hI, wfStore_wrStore, wfStore_map, wrW]

@[simp] theorem inv_tcSync (t : Nat) (hI : s.Inv) : (tcSync t s).Inv := by simp (maxDischargeDepth := 9) +contextual [tcSync, hI, wfStore_wrStore, wfStore_map, wrW]

@[simp] theorem inv_holdParcels (p n : Nat) (hI : s.Inv) : (holdParcels p n s).Inv := by simp (maxDischargeDepth := 9) +contextual [holdParcels, hI, wfStore_wrStore, wfStore_map, wrW]

@[simp] theorem inv_takeQuiet (p : Nat) (hI : s.Inv) : (takeQuiet p s).Inv := by simp (maxDischargeDepth := 9) +contextual [takeQuiet, hI, wfStore_wrStore, wfStore_map, wrW]

@[simp] theorem inv_takeTt (p : Nat) (hI : s.Inv) : (takeTt p s).Inv := by simp (maxDischargeDepth := 9) +contextual [takeTt, hI, wfStore_wrStore, wfStore_map, wrW]

@[simp] theorem inv_applyCulv (p : Nat) (changed : Bool) (hI : s.Inv) : (applyCulv p changed s).Inv := by simp (maxDischargeDepth := 9) +contextual [applyCulv, hI, wfStore_wrStore, wfStore_map, wrW]

@[simp] theorem inv_applyWarden (p : Nat) (hI : s.Inv) : (applyWarden p s).Inv := by simp (maxDischargeDepth := 9) +contextual [applyWarden, hI, wfStore_wrStore, wfStore_map, wrW]

@[simp] theorem inv_startTand (hI : s.Inv) : (startTand s).Inv := by simp (maxDischargeDepth := 9) +contextual [startTand, hI, wfStore_wrStore, wfStore_map, wrW]

@[simp] theorem inv_onBothEps (e : Nat) (f : FEp → FEp) (hI : s.Inv) : (onBothEps e f s).Inv := by simp (maxDischargeDepth := 9) +contextual [onBothEps, hI, wfStore_wrStore, wfStore_map, wrW]

@[simp] theorem inv_readyWaits (hI : s.Inv) : (readyWaits s).Inv := by simp (maxDischargeDepth := 9) +contextual [readyWaits, hI, wfStore_wrStore, wfStore_map, wrW]

@[simp] theorem inv_leaveRole (p : Nat) (m : Store W) (hI : s.Inv) : (leaveRole p m s).Inv := by simp (maxDischargeDepth := 9) +contextual [leaveRole, hI, wfStore_wrStore, wfStore_map, wrW]

@[simp] theorem inv_readyCulv (c p : Nat) (hI : s.Inv) : (readyCulv c p s).Inv := by simp (maxDischargeDepth := 9) +contextual [readyCulv, hI, wfStore_wrStore, wfStore_map, wrW]

@[simp] theorem inv_enterRole (p : Nat) (old : Store W) (hI : s.Inv) : (enterRole p old s).Inv := by simp (maxDischargeDepth := 9) +contextual [enterRole, hI, wfStore_wrStore, wfStore_map, wrW]

@[simp] theorem inv_loadPlot (p : Nat) (m : Store W) (hI : s.Inv) : (loadPlot p m s).Inv := by simp (maxDischargeDepth := 9) +contextual [loadPlot, hI, wfStore_wrStore, wfStore_map, wrW]

@[simp] theorem inv_loadDevice (hI : s.Inv) : (loadDevice s).Inv := by simp (maxDischargeDepth := 9) +contextual [loadDevice, hI, wfStore_wrStore, wfStore_map, wrW]

@[simp] theorem inv_restartPlot (p : Nat) (hI : s.Inv) : (restartPlot p s).Inv := by simp (maxDischargeDepth := 9) +contextual [restartPlot, hI, wfStore_wrStore, wfStore_map, wrW]

@[simp] theorem inv_selfFence (hI : s.Inv) : (selfFence s).Inv := by
  unfold selfFence; (try dsimp only); repeat' split
  all_goals (simp (maxDischargeDepth := 9) +contextual [hI, wfStore_wrStore, wfStore_map, wrW])

/-! ### HayOps -/

@[simp] theorem inv_writeMsg (kept : Bool) (w : W) (hI : s.Inv) : (writeMsg kept w s).Inv := by
  unfold writeMsg
  dsimp only
  have h1 := hI.ring
  have h2 := hI.queue
  refine inv_onHay _ (inv_onHub _ hI rfl ?_) ?_
  · simp only [List.length_append, List.length_cons, List.length_nil]
    split <;> simp <;> omega
  · simp only [State.onHub_hay, apply_ite Hay.queue, apply_ite List.length, List.length_append, List.length_cons,
      List.length_nil]
    cases kept <;> simp <;> split <;> omega

@[simp] theorem inv_hwAssert (hI : s.Inv) : (hwAssert s).Inv := by simp (maxDischargeDepth := 9) +contextual [hwAssert, hI, wfStore_wrStore, wfStore_map, wrW]

@[simp] theorem inv_poisonEntries (p : Nat) (hI : s.Inv) : (poisonEntries p s).Inv := by simp (maxDischargeDepth := 9) +contextual [poisonEntries, hI, wfStore_wrStore, wfStore_map, wrW]

@[simp] theorem inv_emptyEps (p : Nat) (hI : s.Inv) : (emptyEps p s).Inv := by simp (maxDischargeDepth := 9) +contextual [emptyEps, hI, wfStore_wrStore, wfStore_map, wrW]

@[simp] theorem inv_seizeRole (ports : Bool) (p : Nat) (hI : s.Inv) : (seizeRole ports p s).Inv := by simp (maxDischargeDepth := 9) +contextual [seizeRole, hI, wfStore_wrStore, wfStore_map, wrW]

@[simp] theorem inv_takePlot (ports : Bool) (p : Nat) (hI : s.Inv) : (takePlot ports p s).Inv := by
  unfold takePlot; dsimp only; split
  · exact hI
  · refine inv_giveParcels _ _ (inv_seizeSluices _ (inv_forEach _ _ ?_ (fun a u hu => inv_freeSems _ _ hu)))
    exact inv_seizeRole _ _ (inv_poisonEntries _ (inv_emptyEps _ (inv_onPlot _ _ (inv_stopItem _ (inv_rollSluices _ hI)))))

@[simp] theorem inv_seizePlot (p : Nat) (hI : s.Inv) : (seizePlot p s).Inv := by simp (maxDischargeDepth := 9) +contextual [seizePlot, hI, wfStore_wrStore, wfStore_map, wrW]

@[simp] theorem inv_culvSafe (c : Nat) (hI : s.Inv) : (culvSafe c s).Inv := by simp (maxDischargeDepth := 9) +contextual [culvSafe, hI, wfStore_wrStore, wfStore_map, wrW]

@[simp] theorem inv_enterSafe (cause src : Nat) (hI : s.Inv) : (enterSafe cause src s).Inv := by simp (maxDischargeDepth := 9) +contextual [enterSafe, hI, wfStore_wrStore, wfStore_map, wrW]

@[simp] theorem inv_applyScope (c : Nat) (sc : Scope) (hI : s.Inv) : (applyScope c sc s).Inv := by
  unfold applyScope; (try dsimp only); repeat' split
  all_goals (simp (maxDischargeDepth := 9) +contextual [hI, wfStore_wrStore, wfStore_map, wrW])

@[simp] theorem inv_onSrc (c : Nat) (f : SrcSt → SrcSt) (hI : s.Inv) : (s.onSrc c f).Inv := by
  simp [State.onSrc, hI]

@[simp] theorem inv_rejectPartner (id detail : Nat) (w : W) (hI : s.Inv) : (rejectPartner id detail w s).Inv := by simp (maxDischargeDepth := 9) +contextual [rejectPartner, hI, wfStore_wrStore, wfStore_map, wrW]

@[simp] theorem inv_seizePartner (c : Nat) (hI : s.Inv) : (seizePartner c s).Inv := by simp (maxDischargeDepth := 9) +contextual [seizePartner, hI, wfStore_wrStore, wfStore_map, wrW]

@[simp] theorem inv_becomeSevere (c kind : Nat) (hI : s.Inv) : (becomeSevere c kind s).Inv := by simp (maxDischargeDepth := 9) +contextual [becomeSevere, hI, wfStore_wrStore, wfStore_map, wrW]

@[simp] theorem inv_restartHold (c : Nat) (hI : s.Inv) : (restartHold c s).Inv := by simp (maxDischargeDepth := 9) +contextual [restartHold, hI, wfStore_wrStore, wfStore_map, wrW]

@[simp] theorem inv_countEvent (c kind : Nat) (hI : s.Inv) : (countEvent c kind s).Inv := by simp (maxDischargeDepth := 9) +contextual [countEvent, hI, wfStore_wrStore, wfStore_map, wrW]

@[simp] theorem inv_hazardEvent (c kind : Nat) (hI : s.Inv) : (hazardEvent c kind s).Inv := by simp (maxDischargeDepth := 9) +contextual [hazardEvent, hI, wfStore_wrStore, wfStore_map, wrW]

@[simp] theorem inv_latchEvent (e : Event) (hI : s.Inv) : (latchEvent e s).Inv := by simp (maxDischargeDepth := 9) +contextual [latchEvent, hI, wfStore_wrStore, wfStore_map, wrW]

@[simp] theorem inv_freePorts (hI : s.Inv) : (freePorts s).Inv := by simp (maxDischargeDepth := 9) +contextual [freePorts, hI, wfStore_wrStore, wfStore_map, wrW]

@[simp] theorem inv_freeHeld (hI : s.Inv) : (freeHeld s).Inv := by simp (maxDischargeDepth := 9) +contextual [freeHeld, hI, wfStore_wrStore, wfStore_map, wrW]

@[simp] theorem inv_releaseSource (c : Nat) (hI : s.Inv) : (releaseSource c s).Inv := by simp (maxDischargeDepth := 9) +contextual [releaseSource, hI, wfStore_wrStore, wfStore_map, wrW]

@[simp] theorem inv_applyMode (hI : s.Inv) : (applyMode s).Inv := by simp (maxDischargeDepth := 9) +contextual [applyMode, hI, wfStore_wrStore, wfStore_map, wrW]

/-! ### ResetOps -/

@[simp] theorem inv_setSeed (a : Nat) (w : NvmWord) (hI : s.Inv) : (State.setSeed a w s).Inv := by simp (maxDischargeDepth := 9) +contextual [State.setSeed, hI, wfStore_wrStore, wfStore_map, wrW]

@[simp] theorem inv_tearWord (a : Nat) (v : W) (hI : s.Inv) : (tearWord a v s).Inv := by simp (maxDischargeDepth := 9) +contextual [tearWord, hI, wfStore_wrStore, wfStore_map, wrW]

@[simp] theorem inv_cutSector (a : Nat) (hI : s.Inv) : (cutSector a s).Inv := by
  unfold cutSector; (try dsimp only)
  refine inv_forEach _ _ (by (try split) <;> simp (maxDischargeDepth := 9) +contextual [hI, wfStore_wrStore, wfStore_map, wrW]) ?_
  intro a t ht
  (try dsimp only); repeat' split
  all_goals (simp (maxDischargeDepth := 9) +contextual [ht, wfStore_wrStore, wfStore_map, wrW])

@[simp] theorem inv_resetPulses (tears : Bool) (hI : s.Inv) : (resetPulses tears s).Inv := by
  unfold resetPulses; (try dsimp only); repeat' split
  all_goals (simp (maxDischargeDepth := 9) +contextual [hI, wfStore_wrStore, wfStore_map, wrW])

@[simp] theorem inv_recordCause (code : Nat) (hI : s.Inv) : (recordCause code s).Inv := by simp (maxDischargeDepth := 9) +contextual [recordCause, hI, wfStore_wrStore, wfStore_map, wrW]

@[simp] theorem inv_joinCause (code : Nat) (hI : s.Inv) : (joinCause code s).Inv := by simp (maxDischargeDepth := 9) +contextual [joinCause, hI, wfStore_wrStore, wfStore_map, wrW]

theorem inv_reset : State.reset.Inv := by
  constructor <;> decide

@[simp] theorem inv_resetParts (hI : s.Inv) : (resetParts s).Inv := by
  have r := inv_reset
  exact ⟨r.plots, r.furrows, r.ports, r.hubPorts, r.tcs, r.cads, r.queue, r.ring, r.crcCnt, r.malCnt, r.commons, r.ledger, r.sluices, r.space, hI.bkp, hI.sram⟩

@[simp] theorem inv_tryRelease (hI : s.Inv) : (tryRelease s).Inv := by simp (maxDischargeDepth := 9) +contextual [tryRelease, hI, wfStore_wrStore, wfStore_map, wrW]

@[simp] theorem inv_deviceReset (code : Nat) (tears : Bool) (hI : s.Inv) : (deviceReset code tears s).Inv := by simp (maxDischargeDepth := 9) +contextual [deviceReset, hI, wfStore_wrStore, wfStore_map, wrW]

@[simp] theorem inv_dropEndpoints (hI : s.Inv) : (dropEndpoints s).Inv := by
  unfold dropEndpoints; dsimp only
  generalize hE : forEach s.hub.eps _ s = t
  have h1 : t.Inv := hE ▸ inv_forEach _ _ hI (fun a u hu => by split <;> simp [hu])
  exact inv_onHub _ h1 rfl h1.ring

@[simp] theorem inv_cancelForwarded (mute : Bool) (hI : s.Inv) : (cancelForwarded mute s).Inv := by simp (maxDischargeDepth := 9) +contextual [cancelForwarded, hI, wfStore_wrStore, wfStore_map, wrW]

@[simp] theorem inv_dropForwarded (hI : s.Inv) : (dropForwarded s).Inv := by simp (maxDischargeDepth := 9) +contextual [dropForwarded, hI, wfStore_wrStore, wfStore_map, wrW]

@[simp] theorem inv_clearAdj (hI : s.Inv) : (clearAdj s).Inv := by simp (maxDischargeDepth := 9) +contextual [clearAdj, hI, wfStore_wrStore, wfStore_map, wrW]

@[simp] theorem inv_resetFunction (hI : s.Inv) : (resetFunction s).Inv := by simp (maxDischargeDepth := 9) +contextual [resetFunction, hI, wfStore_wrStore, wfStore_map, wrW]

@[simp] theorem inv_cancelSplit (x : Split) (hI : s.Inv) : (cancelSplit x s).Inv := by simp (maxDischargeDepth := 9) +contextual [cancelSplit, hI, wfStore_wrStore, wfStore_map, wrW]

@[simp] theorem inv_resetPortReports (hI : s.Inv) : (resetPortReports s).Inv := by simp (maxDischargeDepth := 9) +contextual [resetPortReports, hI, wfStore_wrStore, wfStore_map, wrW]

@[simp] theorem inv_busReset (hs : Bool) (hI : s.Inv) : (busReset hs s).Inv := by simp (maxDischargeDepth := 9) +contextual [busReset, hI, wfStore_wrStore, wfStore_map, wrW]

/-! ### TypeCOps -/

@[simp] theorem inv_ep4Result (t tag result : Nat) (hI : s.Inv) : (ep4Result t tag result s).Inv := by simp (maxDischargeDepth := 9) +contextual [ep4Result, hI, wfStore_wrStore, wfStore_map, wrW]

@[simp] theorem inv_ep4Done (t op result : Nat) (hI : s.Inv) : (ep4Done t op result s).Inv := by simp (maxDischargeDepth := 9) +contextual [ep4Done, hI, wfStore_wrStore, wfStore_map, wrW]

@[simp] theorem inv_pdFinish (r t : Nat) (hI : s.Inv) : (pdFinish r t s).Inv := by simp (maxDischargeDepth := 9) +contextual [pdFinish, hI, wfStore_wrStore, wfStore_map, wrW]

@[simp] theorem inv_pdClear (r t : Nat) (hI : s.Inv) : (pdClear r t s).Inv := by simp (maxDischargeDepth := 9) +contextual [pdClear, hI, wfStore_wrStore, wfStore_map, wrW]

@[simp] theorem inv_resetIds (sops : Nat → Bool) (t : Nat) (hI : s.Inv) : (resetIds sops t s).Inv := by simp (maxDischargeDepth := 9) +contextual [resetIds, hI, wfStore_wrStore, wfStore_map, wrW]

@[simp] theorem inv_pdSend (tag : Option Nat) (t : Nat) (hI : s.Inv) : (pdSend tag t s).Inv := by
  unfold pdSend; (try dsimp only); repeat' split
  all_goals (simp (maxDischargeDepth := 9) +contextual [hI, wfStore_wrStore, wfStore_map, wrW])

@[simp] theorem inv_pdCancelSend (t : Nat) (hI : s.Inv) : (pdCancelSend t s).Inv := by
  unfold pdCancelSend; (try dsimp only); repeat' split
  all_goals (simp (maxDischargeDepth := 9) +contextual [hI, wfStore_wrStore, wfStore_map, wrW])

@[simp] theorem inv_sinkTxOk (t : Nat) (hI : s.Inv) : (sinkTxOk t s).Inv := by simp (maxDischargeDepth := 9) +contextual [sinkTxOk, hI, wfStore_wrStore, wfStore_map, wrW]

@[simp] theorem inv_afterHardReset (t : Nat) (hI : s.Inv) : (afterHardReset t s).Inv := by simp (maxDischargeDepth := 9) +contextual [afterHardReset, hI, wfStore_wrStore, wfStore_map, wrW]

@[simp] theorem inv_pdHardReset (t : Nat) (hI : s.Inv) : (pdHardReset t s).Inv := by simp (maxDischargeDepth := 9) +contextual [pdHardReset, hI, wfStore_wrStore, wfStore_map, wrW]

@[simp] theorem inv_pdRefuse (t : Nat) (hI : s.Inv) : (pdRefuse t s).Inv := by simp (maxDischargeDepth := 9) +contextual [pdRefuse, hI, wfStore_wrStore, wfStore_map, wrW]

@[simp] theorem inv_pdCableReset (t : Nat) (hI : s.Inv) : (pdCableReset t s).Inv := by simp (maxDischargeDepth := 9) +contextual [pdCableReset, hI, wfStore_wrStore, wfStore_map, wrW]

@[simp] theorem inv_pdPop (t : Nat) (hI : s.Inv) : (pdPop t s).Inv := by simp (maxDischargeDepth := 9) +contextual [pdPop, hI, wfStore_wrStore, wfStore_map, wrW]

@[simp] theorem inv_pdFlush (t : Nat) (hI : s.Inv) : (pdFlush t s).Inv := by simp (maxDischargeDepth := 9) +contextual [pdFlush, hI, wfStore_wrStore, wfStore_map, wrW]

@[simp] theorem inv_pdVconnOn (t : Nat) (hI : s.Inv) : (pdVconnOn t s).Inv := by simp (maxDischargeDepth := 9) +contextual [pdVconnOn, hI, wfStore_wrStore, wfStore_map, wrW]

@[simp] theorem inv_pdCommand (t cmd arg : Nat) (hI : s.Inv) : (pdCommand t cmd arg s).Inv := by
  unfold pdCommand; (try dsimp only); repeat' split
  all_goals (simp (maxDischargeDepth := 9) +contextual [hI, wfStore_wrStore, wfStore_map, wrW])

/-! ### Supplies -/

theorem inv_undoWord (x : Bool × Nat × W) (hI : s.Inv) : (s.onStby (undoWord x)).Inv := by
  refine inv_onStby _ hI ?_ ?_ <;> unfold undoWord <;> split <;>
    first | exact hI.bkp | exact hI.sram | exact wfStore_wrStore _ _ _ hI.bkp | exact wfStore_wrStore _ _ _ hI.sram

@[simp] theorem inv_undoStandby (hI : s.Inv) : (undoStandby s).Inv := by
  unfold undoStandby
  refine inv_forEach _ _ hI (fun x t ht => inv_took.mpr ?_)
  split
  · exact inv_undoWord x ht
  · exact ht

@[simp] theorem inv_resetBlock (b : Nat) (hI : s.Inv) : (resetBlock b s).Inv := by
  unfold resetBlock; (try dsimp only); repeat' split
  all_goals (simp (maxDischargeDepth := 9) +contextual [hI, wfStore_wrStore, wfStore_map, wrW])

/-! ### Sluices -/

@[simp] theorem inv_streamIn (q p : Nat) (hI : s.Inv) : (streamIn q p s).Inv := by simp (maxDischargeDepth := 9) +contextual [streamIn, hI, wfStore_wrStore, wfStore_map, wrW]

end Sys2Proof.Machine
end

