-- ==== Sys2Proof/Laws/KeepsRegs.lean ====
section
/-!
SUPPORT. Every shared operation of the registers and their two paths keeps the invariant of the machine.
-/

namespace Sys2Proof.Machine

set_option linter.all false

variable {s : State}

/-! ### CmdOps -/

@[simp] theorem inv_requestPort (on : Bool) (n : Nat) (hI : s.Inv) : (requestPort on n s).Inv := by simp (maxDischargeDepth := 9) +contextual [requestPort, hI, wfStore_wrStore, wfStore_map, wrW]

@[simp] theorem inv_clearLatch (n : Nat) (hI : s.Inv) : (clearLatch n s).Inv := by simp (maxDischargeDepth := 9) +contextual [clearLatch, hI, wfStore_wrStore, wfStore_map, wrW]

@[simp] theorem inv_railHigh (n : Nat) (hI : s.Inv) : (railHigh n s).Inv := by simp (maxDischargeDepth := 9) +contextual [railHigh, hI, wfStore_wrStore, wfStore_map, wrW]

@[simp] theorem inv_railLow (n : Nat) (hI : s.Inv) : (railLow n s).Inv := by simp (maxDischargeDepth := 9) +contextual [railLow, hI, wfStore_wrStore, wfStore_map, wrW]

@[simp] theorem inv_portCommand (n : Nat) (v : W) (hI : s.Inv) : (portCommand n v s).Inv := by
  unfold portCommand; (try dsimp only); repeat' split
  all_goals (simp (maxDischargeDepth := 9) +contextual [hI, wfStore_wrStore, wfStore_map, wrW])

@[simp] theorem inv_wakeUp (hI : s.Inv) : (wakeUp s).Inv := by simp (maxDischargeDepth := 9) +contextual [wakeUp, hI, wfStore_wrStore, wfStore_map, wrW]

@[simp] theorem inv_dropStep (hI : s.Inv) : (dropStep s).Inv := by
  unfold dropStep; (try dsimp only); repeat' split
  all_goals (simp (maxDischargeDepth := 9) +contextual [hI, wfStore_wrStore, wfStore_map, wrW])

@[simp] theorem inv_dropFence (hI : s.Inv) : (dropFence s).Inv := by simp (maxDischargeDepth := 9) +contextual [dropFence, hI, wfStore_wrStore, wfStore_map, wrW]

@[simp] theorem inv_abandonTest (hI : s.Inv) : (abandonTest s).Inv := by simp (maxDischargeDepth := 9) +contextual [abandonTest, hI, wfStore_wrStore, wfStore_map, wrW, apply_ite Field.map, apply_ite Hub.ports, apply_ite Hub.ring, apply_ite Hay.queue, apply_ite Cfg.space, apply_ite Stby.bkp, apply_ite Stby.sram, apply_ite Tally.crcCnt, apply_ite Tally.malCnt, apply_ite Mem.commons, apply_ite Mem.ledger]

@[simp] theorem inv_stopMemtest (hI : s.Inv) : (stopMemtest s).Inv := by simp (maxDischargeDepth := 9) +contextual [stopMemtest, hI, wfStore_wrStore, wfStore_map, wrW, apply_ite Field.map, apply_ite Hub.ports, apply_ite Hub.ring, apply_ite Hay.queue, apply_ite Cfg.space, apply_ite Stby.bkp, apply_ite Stby.sram, apply_ite Tally.crcCnt, apply_ite Tally.malCnt, apply_ite Mem.commons, apply_ite Mem.ledger]

@[simp] theorem inv_startShutdown (hI : s.Inv) : (startShutdown s).Inv := by simp (maxDischargeDepth := 9) +contextual [startShutdown, hI, wfStore_wrStore, wfStore_map, wrW]

@[simp] theorem inv_requestRun (hI : s.Inv) : (requestRun s).Inv := by
  unfold requestRun; (try dsimp only); repeat' split
  all_goals (simp (maxDischargeDepth := 9) +contextual [hI, wfStore_wrStore, wfStore_map, wrW])

@[simp] theorem inv_requestQuiesce (hI : s.Inv) : (requestQuiesce s).Inv := by
  unfold requestQuiesce; (try dsimp only); repeat' split
  all_goals (simp (maxDischargeDepth := 9) +contextual [hI, wfStore_wrStore, wfStore_map, wrW])

@[simp] theorem inv_requestStandby (hI : s.Inv) : (requestStandby s).Inv := by
  unfold requestStandby; (try dsimp only); repeat' split
  all_goals (simp (maxDischargeDepth := 9) +contextual [hI, wfStore_wrStore, wfStore_map, wrW])

@[simp] theorem inv_writePwrState (v : W) (hI : s.Inv) : (writePwrState v s).Inv := by
  unfold writePwrState; (try dsimp only); repeat' split
  all_goals (simp (maxDischargeDepth := 9) +contextual [hI, wfStore_wrStore, wfStore_map, wrW])

@[simp] theorem inv_nvmReadWord (a : Nat) (hI : s.Inv) : (nvmReadWord a s).Inv := by simp (maxDischargeDepth := 9) +contextual [nvmReadWord, hI, wfStore_wrStore, wfStore_map, wrW]

@[simp] theorem inv_writeNvmCtl (v : W) (hI : s.Inv) : (writeNvmCtl v s).Inv := by simp (maxDischargeDepth := 9) +contextual [writeNvmCtl, hI, wfStore_wrStore, wfStore_map, wrW]

@[simp] theorem inv_writeFuseCtl (v : W) (hI : s.Inv) : (writeFuseCtl v s).Inv := by simp (maxDischargeDepth := 9) +contextual [writeFuseCtl, hI, wfStore_wrStore, wfStore_map, wrW]

@[simp] theorem inv_refuseFallow (why : Nat) (hI : s.Inv) : (refuseFallow why s).Inv := by simp (maxDischargeDepth := 9) +contextual [refuseFallow, hI, wfStore_wrStore, wfStore_map, wrW]

@[simp] theorem inv_requestForce (f : Nat) (hI : s.Inv) : (requestForce f s).Inv := by simp (maxDischargeDepth := 9) +contextual [requestForce, hI, wfStore_wrStore, wfStore_map, wrW]

@[simp] theorem inv_requestMemtest (hI : s.Inv) : (requestMemtest s).Inv := by simp (maxDischargeDepth := 9) +contextual [requestMemtest, hI, wfStore_wrStore, wfStore_map, wrW]

@[simp] theorem inv_writeFallowCtl (v : W) (hI : s.Inv) : (writeFallowCtl v s).Inv := by simp (maxDischargeDepth := 9) +contextual [writeFallowCtl, hI, wfStore_wrStore, wfStore_map, wrW]

@[simp] theorem inv_openCfg (path : Path) (hI : s.Inv) : (openCfg path s).Inv := by simp (maxDischargeDepth := 9) +contextual [openCfg, hI, wfStore_wrStore, wfStore_map, wrW]

@[simp] theorem inv_commitCfg (hI : s.Inv) : (commitCfg s).Inv := by simp (maxDischargeDepth := 9) +contextual [commitCfg, hI, wfStore_wrStore, wfStore_map, wrW]

@[simp] theorem inv_writeCfgCtl (path : Path) (v : W) (hI : s.Inv) : (writeCfgCtl path v s).Inv := by simp (maxDischargeDepth := 9) +contextual [writeCfgCtl, hI, wfStore_wrStore, wfStore_map, wrW]

@[simp] theorem inv_refuseFence (why : Nat) (hI : s.Inv) : (refuseFence why s).Inv := by simp (maxDischargeDepth := 9) +contextual [refuseFence, hI, wfStore_wrStore, wfStore_map, wrW]

@[simp] theorem inv_addFence (p : Nat) (hI : s.Inv) : (addFence p s).Inv := by simp (maxDischargeDepth := 9) +contextual [addFence, hI, wfStore_wrStore, wfStore_map, wrW]

@[simp] theorem inv_clearFence (hI : s.Inv) : (clearFence s).Inv := by simp (maxDischargeDepth := 9) +contextual [clearFence, hI, wfStore_wrStore, wfStore_map, wrW]

@[simp] theorem inv_requestFence (hI : s.Inv) : (requestFence s).Inv := by simp (maxDischargeDepth := 9) +contextual [requestFence, hI, wfStore_wrStore, wfStore_map, wrW]

@[simp] theorem inv_writeFence (v : W) (hI : s.Inv) : (writeFence v s).Inv := by
  unfold writeFence; (try dsimp only); repeat' split
  all_goals (simp (maxDischargeDepth := 9) +contextual [hI, wfStore_wrStore, wfStore_map, wrW])

@[simp] theorem inv_writeCfgWord (a : Nat) (v : W) (hI : s.Inv) : (writeCfgWord a v s).Inv := by simp (maxDischargeDepth := 9) +contextual [writeCfgWord, hI, wfStore_wrStore, wfStore_map, wrW]

@[simp] theorem inv_writeHwCtl (v : W) (hI : s.Inv) : (writeHwCtl v s).Inv := by
  unfold writeHwCtl; (try dsimp only); repeat' split
  all_goals (simp (maxDischargeDepth := 9) +contextual [hI, wfStore_wrStore, wfStore_map, wrW])

@[simp] theorem inv_writeFltPin (v : W) (hI : s.Inv) : (writeFltPin v s).Inv := by simp (maxDischargeDepth := 9) +contextual [writeFltPin, hI, wfStore_wrStore, wfStore_map, wrW, apply_ite Field.map, apply_ite Hub.ports, apply_ite Hub.ring, apply_ite Hay.queue, apply_ite Cfg.space, apply_ite Stby.bkp, apply_ite Stby.sram, apply_ite Tally.crcCnt, apply_ite Tally.malCnt, apply_ite Mem.commons, apply_ite Mem.ledger]

@[simp] theorem inv_writeSafeCtl (v : W) (hI : s.Inv) : (writeSafeCtl v s).Inv := by
  unfold writeSafeCtl; (try dsimp only); repeat' split
  all_goals (simp (maxDischargeDepth := 9) +contextual [hI, wfStore_wrStore, wfStore_map, wrW])

/-! ### Window -/

@[simp] theorem inv_finishTally (o : Outc) (hI : s.Inv) : (finishTally o s).Inv := by
  have h1 := hI.crcCnt
  have h2 := hI.malCnt
  refine inv_onTally _ hI ?_ ?_ <;> simp only [satInc] <;> (repeat' split) <;> omega

@[simp] theorem inv_finishUsb (o : Outc) (wrote : Bool) (hI : s.Inv) : (finishUsb o wrote s).Inv := by simp (maxDischargeDepth := 9) +contextual [finishUsb, hI, wfStore_wrStore, wfStore_map, wrW]

@[simp] theorem inv_writeBkp (k : Nat) (v : W) (hI : s.Inv) : (writeBkp k v s).Inv := by
  unfold writeBkp
  refine inv_onStby _ hI ?_ ?_ <;> (try dsimp only) <;> split <;>
    first | exact hI.bkp | exact hI.sram | exact wfStore_wrStore _ _ _ hI.bkp | exact wfStore_wrStore _ _ _ hI.sram

@[simp] theorem inv_writeSram (k : Nat) (v : W) (hI : s.Inv) : (writeSram k v s).Inv := by
  unfold writeSram
  refine inv_onStby _ hI ?_ ?_ <;> (try dsimp only) <;> split <;>
    first | exact hI.bkp | exact hI.sram | exact wfStore_wrStore _ _ _ hI.bkp | exact wfStore_wrStore _ _ _ hI.sram

@[simp] theorem inv_settleStby (hI : s.Inv) : (settleStby s).Inv := by simp (maxDischargeDepth := 9) +contextual [settleStby, hI, wfStore_wrStore, wfStore_map, wrW]

@[simp] theorem inv_regEffect (path : Path) (idx : Nat) (v : W) (hI : s.Inv) : (regEffect path idx v s).Inv := by
  have h1 := hI.crcCnt
  have h2 := hI.malCnt
  unfold regEffect
  split
  case h_2 => refine inv_onTally _ hI ?_ ?_ <;> simp only [writeTstat] <;> split <;> omega
  all_goals simp (maxDischargeDepth := 12) +contextual [hI, writeRstCause]

@[simp] theorem inv_clearPlotStatus (p : Nat) (hI : s.Inv) : (clearPlotStatus p s).Inv := by simp (maxDischargeDepth := 9) +contextual [clearPlotStatus, hI, wfStore_wrStore, wfStore_map, wrW]

@[simp] theorem inv_clearUsbCounters (n : Nat) (hI : s.Inv) : (clearUsbCounters n s).Inv := by simp (maxDischargeDepth := 9) +contextual [clearUsbCounters, hI, wfStore_wrStore, wfStore_map, wrW]

@[simp] theorem inv_writeMailbox (t k : Nat) (v : W) (hI : s.Inv) : (writeMailbox t k v s).Inv := by simp (maxDischargeDepth := 9) +contextual [writeMailbox, hI, wfStore_wrStore, wfStore_map, wrW]

@[simp] theorem inv_indEffect (a : Nat) (v : W) (hI : s.Inv) : (indEffect a v s).Inv := by
  unfold indEffect; (try dsimp only); repeat' split
  all_goals (simp (maxDischargeDepth := 9) +contextual [hI, wfStore_wrStore, wfStore_map, wrW])

theorem inv_indWrite (path : Path) (a : Nat) (v : W) (hI : s.Inv) : (indWrite path a v s).2.Inv := by
  unfold indWrite; (try dsimp only); split <;> simp [hI]

theorem inv_fetchWord (w : Win) (a : Nat) (hI : s.Inv) : (fetchWord w a s).2.Inv := by
  unfold fetchWord; (try dsimp only); repeat' split
  all_goals simp [hI]

theorem inv_iwdReadAt (path : Path) (hI : s.Inv) : (iwdReadAt path s).2.2.Inv := by
  unfold iwdReadAt; (try dsimp only); repeat' split
  all_goals simp [hI]

theorem inv_iwdWriteAt (path : Path) (v : W) (hI : s.Inv) : (iwdWriteAt path v s).2.Inv := by
  unfold iwdWriteAt; (try dsimp only); repeat' split
  all_goals simp [hI]

@[simp] theorem inv_bufferReady (path : Path) (hI : s.Inv) : (bufferReady path s).Inv := by
  unfold bufferReady; (try dsimp only); split
  · exact hI
  · simp [inv_fetchWord _ _ hI]

@[simp] theorem inv_drainWrite (path : Path) (hI : s.Inv) : (drainWrite path s).Inv := by
  unfold drainWrite; (try dsimp only); repeat' split
  all_goals (simp (maxDischargeDepth := 9) +contextual [hI, wfStore_wrStore, wfStore_map, wrW])

theorem inv_regWrite (path : Path) (idx : Nat) (v : W) (hI : s.Inv) : (regWrite path idx v s).2.Inv := by
  unfold regWrite; (try dsimp only); repeat' split
  all_goals first | exact hI | exact inv_iwdWriteAt _ _ hI | simp [hI]

theorem inv_regRead (path : Path) (idx : Nat) (hI : s.Inv) : (regRead path idx s).2.2.Inv := by
  unfold regRead; (try dsimp only); repeat' split
  all_goals first | exact hI | exact inv_iwdReadAt _ hI | skip
  exact inv_onHay (fun h => { h with queue := h.queue.drop 1 }) hI (by have := hI.queue; simp; omega)

@[simp] theorem inv_tallyFall (hI : s.Inv) : (tallyFall s).Inv := by simp (maxDischargeDepth := 9) +contextual [tallyFall, hI, wfStore_wrStore, wfStore_map, wrW]

@[simp] theorem inv_tallyReset (idx : Nat) (v : W) (o : Outc) (hI : s.Inv) : (tallyReset idx v o s).Inv := by simp (maxDischargeDepth := 9) +contextual [tallyReset, hI, wfStore_wrStore, wfStore_map, wrW]

@[simp] theorem inv_tallyWrite (idx : Nat) (v : W) (hI : s.Inv) : (tallyWrite idx v s).Inv := by
  unfold tallyWrite; dsimp only
  have h1 := inv_regWrite .tally idx v (inv_tallyFall hI)
  simp [h1]

@[simp] theorem inv_tallyRead (idx : Nat) (tdo : Outc → W → Tdo) (hI : s.Inv) : (tallyRead idx tdo s).Inv := by
  unfold tallyRead; dsimp only
  have h1 := inv_finishTally (regRead .tally idx (tallyFall s)).1 (inv_regRead .tally idx (inv_tallyFall hI))
  exact inv_onTally _ h1 h1.crcCnt h1.malCnt

@[simp] theorem inv_badFrame (o : Outc) (tdo : Tdo) (hI : s.Inv) : (badFrame o tdo s).Inv := by simp (maxDischargeDepth := 9) +contextual [badFrame, hI, wfStore_wrStore, wfStore_map, wrW]

@[simp] theorem inv_writeFrame (cmd : Byte) (data : W) (crc : Byte) (clocks : Nat) (hI : s.Inv) : (writeFrame cmd data crc clocks s).Inv := by simp (maxDischargeDepth := 9) +contextual [writeFrame, hI, wfStore_wrStore, wfStore_map, wrW]

@[simp] theorem inv_readFrame (cmd turn : Byte) (clocks : Nat) (hI : s.Inv) : (readFrame cmd turn clocks s).Inv := by simp (maxDischargeDepth := 9) +contextual [readFrame, hI, wfStore_wrStore, wfStore_map, wrW]

@[simp] theorem inv_vendor (good : Bool) (f : State → State) (g : ∀ t, t.Inv → (f t).Inv) (hI : s.Inv) : (vendor good f s).Inv := by
  unfold vendor; repeat' split
  all_goals simp (maxDischargeDepth := 12) +contextual [hI, g]

@[simp] theorem inv_endWrite (s0 : State) (o : Outc) (hI : s.Inv) : (endWrite s0 o s).Inv := by simp (maxDischargeDepth := 9) +contextual [endWrite, hI, wfStore_wrStore, wfStore_map, wrW]

@[simp] theorem inv_usbWriteReg (idx : Nat) (v : W) (hI : s.Inv) : (usbWriteReg idx v s).Inv := by
  unfold usbWriteReg; (try dsimp only); repeat' split
  all_goals simp [hI, inv_iwdWriteAt .usb v hI, inv_regWrite .usb idx v hI]

@[simp] theorem inv_usbReadReg (idx : Nat) (hI : s.Inv) : (usbReadReg idx s).Inv := by
  unfold usbReadReg; (try dsimp only); repeat' split
  all_goals simp [hI, inv_regRead .usb idx hI]

theorem inv_readWords (n : Nat) (o : Outc) (hI : s.Inv) (l : List W) (q : Outc) (t : State)
    (e : readWords n o s = some (l, q, t)) : t.Inv := by
  induction n generalizing s o l q t with
  | zero => simp [readWords] at e; exact e.2.2 ▸ hI
  | succ n ih =>
    unfold readWords at e
    dsimp only at e
    split at e
    · cases e
    · split at e
      · rename_i h
        cases e
        exact ih _ (by simp [inv_fetchWord _ _ hI]) _ _ _ h
      · cases e

theorem inv_writeWords (l : List W) (o : Outc) (hI : s.Inv) : (writeWords l o s).2.Inv := by
  induction l generalizing s o with
  | nil => exact hI
  | cons v l ih =>
    unfold writeWords
    dsimp only
    split
    · exact hI
    · exact ih _ (by simp [inv_indWrite _ _ _ hI])

@[simp] theorem inv_loadIwa (wValue wIndex : BitVec 16) (hI : s.Inv) : (loadIwa wValue wIndex s).Inv := by simp (maxDischargeDepth := 9) +contextual [loadIwa, hI, wfStore_wrStore, wfStore_map, wrW]

@[simp] theorem inv_rowWrite (path : Path) (idx : Nat) (v : W) (hI : s.Inv) : (rowWrite path idx v s).Inv := by
  unfold rowWrite; split
  · split <;> simp [hI]
  · exact inv_vendor _ _ (fun t ht => by simp [ht]) hI

@[simp] theorem inv_rowInd (path : Path) (a : Nat) (v : W) (hI : s.Inv) : (rowInd path a v s).Inv := by
  unfold rowInd; (try dsimp only); split
  · split
    · exact hI
    · split
      · simp [hI]
      · simp [inv_indWrite .tally a v (inv_tallyFall hI)]
  · refine inv_vendor _ _ (fun t ht => ?_) hI
    split
    · simp [ht]
    · simp [inv_indWrite .usb a v ht]

/-! ### Registers -/

@[simp] theorem inv_endHeldRead (hI : s.Inv) : (endHeldRead s).Inv := by
  unfold endHeldRead
  refine inv_finishTally _ (inv_onTally _ ?_ ?_ ?_)
  · split
    · exact inv_onHay _ hI (by have := hI.queue; simp; omega)
    · exact hI
  · split
    · exact hI.crcCnt
    · exact hI.crcCnt
  · split
    · exact hI.malCnt
    · exact hI.malCnt

@[simp] theorem inv_pulseEnded (hI : s.Inv) : (pulseEnded s).Inv := by simp (maxDischargeDepth := 9) +contextual [pulseEnded, hI, wfStore_wrStore, wfStore_map, wrW]

@[simp] theorem inv_nvmDone (ok : Bool) (hI : s.Inv) : (nvmDone ok s).Inv := by simp (maxDischargeDepth := 9) +contextual [nvmDone, hI, wfStore_wrStore, wfStore_map, wrW]

@[simp] theorem inv_eraseSector (a : Nat) (hI : s.Inv) : (eraseSector a s).Inv := by simp (maxDischargeDepth := 9) +contextual [eraseSector, hI, wfStore_wrStore, wfStore_map, wrW]

/-! ### Tap -/

@[simp] theorem inv_selectTap (i : TapIr) (v : BitVec 177) (hI : s.Inv) : (selectTap i v s).Inv := by simp (maxDischargeDepth := 9) +contextual [selectTap, hI, wfStore_wrStore, wfStore_map, wrW]

end Sys2Proof.Machine
end

