-- ==== Sys2Proof/Laws/KeepsWires.lean ====
section
/-!
SUPPORT. Every shared operation of the hub, splits, streams, ports and Type-C keeps the invariant of the machine.
-/

namespace Sys2Proof.Machine

set_option linter.all false

variable {s : State}

/-! ### Hub -/

@[simp] theorem inv_hubRequest (f : State → State) (g : ∀ t, t.Inv → (f t).Inv) (hI : s.Inv) : (hubRequest f s).Inv := by
  unfold hubRequest; exact inv_onlyIf _ _ hI (fun _ => g _ hI)

@[simp] theorem inv_funcRequest (f : State → State) (g : ∀ t, t.Inv → (f t).Inv) (hI : s.Inv) : (funcRequest f s).Inv := by
  unfold funcRequest; refine inv_onlyIf _ _ hI (fun _ => ?_); split <;> simp [hI, g]

@[simp] theorem inv_onPipe (func : Bool) (f : State → State) (g : ∀ t, t.Inv → (f t).Inv) (hI : s.Inv) : (onPipe func f s).Inv := by
  unfold onPipe; split
  · exact inv_funcRequest _ g hI
  · exact inv_hubRequest _ g hI

@[simp] theorem inv_portRequest (n : Nat) (a : PAction) (hI : s.Inv) : (portRequest n a s).Inv := by simp (maxDischargeDepth := 9) +contextual [portRequest, hI, wfStore_wrStore, wfStore_map, wrW]

@[simp] theorem inv_autoClear (n : Nat) (hI : s.Inv) : (autoClear n s).Inv := by simp (maxDischargeDepth := 9) +contextual [autoClear, hI, wfStore_wrStore, wfStore_map, wrW]

@[simp] theorem inv_setPort17Susp (n : Nat) (on : Bool) (hI : s.Inv) : (setPort17Susp n on s).Inv := by simp (maxDischargeDepth := 9) +contextual [setPort17Susp, hI, wfStore_wrStore, wfStore_map, wrW]

@[simp] theorem inv_startResume (n : Nat) (hI : s.Inv) : (startResume n s).Inv := by simp (maxDischargeDepth := 9) +contextual [startResume, hI, wfStore_wrStore, wfStore_map, wrW]

@[simp] theorem inv_portAction (n : Nat) (a : PAction) (hI : s.Inv) : (portAction n a s).Inv := by
  unfold portAction; (try dsimp only); repeat' split
  all_goals (simp (maxDischargeDepth := 9) +contextual [hI, wfStore_wrStore, wfStore_map, wrW])

@[simp] theorem inv_connectPort (n : Nat) (speed : Speed) (hI : s.Inv) : (connectPort n speed s).Inv := by simp (maxDischargeDepth := 9) +contextual [connectPort, hI, wfStore_wrStore, wfStore_map, wrW]

@[simp] theorem inv_disconnectPort (n : Nat) (hI : s.Inv) : (disconnectPort n s).Inv := by simp (maxDischargeDepth := 9) +contextual [disconnectPort, hI, wfStore_wrStore, wfStore_map, wrW]

@[simp] theorem inv_takeDetect (n : Nat) (d : Option Speed) (hI : s.Inv) : (takeDetect n d s).Inv := by
  unfold takeDetect; (try dsimp only); repeat' split
  all_goals (simp (maxDischargeDepth := 9) +contextual [hI, wfStore_wrStore, wfStore_map, wrW])

@[simp] theorem inv_hubWakes (change : Bool) (hI : s.Inv) : (hubWakes change s).Inv := by simp (maxDischargeDepth := 9) +contextual [hubWakes, hI, wfStore_wrStore, wfStore_map, wrW]

@[simp] theorem inv_sawChange (n : Nat) (d : Option Speed) (hI : s.Inv) : (sawChange n d s).Inv := by simp (maxDischargeDepth := 9) +contextual [sawChange, hI, wfStore_wrStore, wfStore_map, wrW]

/-! ### Splits -/

@[simp] theorem inv_ttRequest (n : Nat) (f : List Nat → State → State) (g : ∀ l t, t.Inv → (f l t).Inv) (hI : s.Inv) :
    (ttRequest n f s).Inv := by
  unfold ttRequest; refine inv_hubRequest _ (fun t ht => ?_) hI; split <;> simp [ht, g]

@[simp] theorem inv_cancelSplits (f : Split → Bool) (hI : s.Inv) : (cancelSplits f s).Inv := by simp (maxDischargeDepth := 9) +contextual [cancelSplits, hI, wfStore_wrStore, wfStore_map, wrW]

@[simp] theorem inv_refuseSplit (periodic : Bool) (n dev ep : Nat) (dirIn : Bool) (hI : s.Inv) : (refuseSplit periodic n dev ep dirIn s).Inv := by simp (maxDischargeDepth := 9) +contextual [refuseSplit, hI, wfStore_wrStore, wfStore_map, wrW]

@[simp] theorem inv_openSplit (p n dev ep : Nat) (periodic dirIn : Bool) (out : List Byte) (poison : Bool) (id : Nat) (hI : s.Inv) : (openSplit p n dev ep periodic dirIn out poison id s).Inv := by simp (maxDischargeDepth := 9) +contextual [openSplit, hI, wfStore_wrStore, wfStore_map, wrW]

@[simp] theorem inv_splitOnWire (p : Nat) (i : Item) (hI : s.Inv) : (splitOnWire p i s).Inv := by
  unfold splitOnWire; (try dsimp only); repeat' split
  all_goals (simp (maxDischargeDepth := 9) +contextual [hI, wfStore_wrStore, wfStore_map, wrW])

@[simp] theorem inv_splitTimeoutOf (periodic : Bool) (i : Nat) (hI : s.Inv) : (splitTimeoutOf periodic i s).Inv := by
  unfold splitTimeoutOf; (try dsimp only); repeat' split
  all_goals (simp (maxDischargeDepth := 9) +contextual [hI, wfStore_wrStore, wfStore_map, wrW])

/-! ### Hayward -/

@[simp] theorem inv_reloadHayward (hI : s.Inv) : (reloadHayward s).Inv := by simp (maxDischargeDepth := 9) +contextual [reloadHayward, hI, wfStore_wrStore, wfStore_map, wrW]

@[simp] theorem inv_ringIn (ackd : Bool) (hI : s.Inv) : (ringIn ackd s).Inv := by
  have h1 := hI.ring
  unfold ringIn; repeat' split
  all_goals (try simp [hI]; done)
  all_goals
    simp only [inv_answer]
    refine inv_onHub _ hI ?_ ?_
  all_goals simp
  all_goals omega

/-! ### CadOps -/

@[simp] theorem inv_cadBoundary (k : Nat) (hI : s.Inv) : (cadBoundary k s).Inv := by
  unfold cadBoundary; (try dsimp only); repeat' split
  all_goals (simp (maxDischargeDepth := 9) +contextual [hI, wfStore_wrStore, wfStore_map, wrW])

@[simp] theorem inv_stageOne (p k idx : Nat) (hI : s.Inv) : (stageOne p k idx s).Inv := by
  unfold stageOne; (try dsimp only); repeat' split
  all_goals (simp (maxDischargeDepth := 9) +contextual [hI, wfStore_wrStore, wfStore_map, wrW])

@[simp] theorem inv_cadStage (p : Nat) (i : Item) (hI : s.Inv) : (cadStage p i s).Inv := by simp (maxDischargeDepth := 9) +contextual [cadStage, hI, wfStore_wrStore, wfStore_map, wrW]

@[simp] theorem inv_giveSense (k : Nat) (t12 v : BitVec 12) (bad : Bool) (hI : s.Inv) : (giveSense k t12 v bad s).Inv := by simp (maxDischargeDepth := 9) +contextual [giveSense, hI, wfStore_wrStore, wfStore_map, wrW]

@[simp] theorem inv_takeSense (p k n : Nat) (hI : s.Inv) : (takeSense p k n s).Inv := by
  induction n generalizing s with
  | zero => exact hI
  | succ n ih =>
    unfold takeSense; split
    · exact hI
    · exact ih (by simp [inv_popSet _ hI _ _ _ ‹_›])

@[simp] theorem inv_dropSense (p : Nat) (hI : s.Inv) : (dropSense p s).Inv := by simp (maxDischargeDepth := 9) +contextual [dropSense, hI, wfStore_wrStore, wfStore_map, wrW]

@[simp] theorem inv_buildPacket (p k : Nat) (hI : s.Inv) : (buildPacket p k s).Inv := by
  unfold buildPacket; (try dsimp only); repeat' split
  all_goals (simp (maxDischargeDepth := 9) +contextual [hI, wfStore_wrStore, wfStore_map, wrW])

@[simp] theorem inv_landTicks (k : Nat) (first : W) (n : Nat) (bad : Bool) (hI : s.Inv) : (landTicks k first n bad s).Inv := by simp (maxDischargeDepth := 9) +contextual [landTicks, hI, wfStore_wrStore, wfStore_map, wrW]

@[simp] theorem inv_takeStreams (p n : Nat) (hI : s.Inv) : (takeStreams p n s).Inv := by
  induction n generalizing s with
  | zero => exact hI
  | succ n ih =>
    unfold takeStreams; split
    · exact hI
    · split
      · exact hI
      · exact ih (by simp [hI])

@[simp] theorem inv_streamPoll (k : Nat) (hI : s.Inv) : (streamPoll k s).Inv := by
  unfold streamPoll; (try dsimp only); repeat' split
  all_goals (simp (maxDischargeDepth := 9) +contextual [hI, wfStore_wrStore, wfStore_map, wrW])

@[simp] theorem inv_streamEndpoint (k : Nat) (hI : s.Inv) : (streamEndpoint k s).Inv := by simp (maxDischargeDepth := 9) +contextual [streamEndpoint, hI, wfStore_wrStore, wfStore_map, wrW]

/-! ### Cadence -/

/-! ### RackFunction -/

@[simp] theorem inv_carve (p e k : Nat) (hI : s.Inv) : (carve p e k s).Inv := by simp (maxDischargeDepth := 9) +contextual [carve, hI, wfStore_wrStore, wfStore_map, wrW]

@[simp] theorem inv_bulkIn (e : Nat) (ackd : Bool) (hI : s.Inv) : (bulkIn e ackd s).Inv := by
  unfold bulkIn; (try dsimp only); repeat' split
  all_goals (simp (maxDischargeDepth := 9) +contextual [hI, wfStore_wrStore, wfStore_map, wrW])

@[simp] theorem inv_epIn (e : Nat) (ackd : Bool) (hI : s.Inv) : (epIn e ackd s).Inv := by simp (maxDischargeDepth := 9) +contextual [epIn, hI, wfStore_wrStore, wfStore_map, wrW]

@[simp] theorem inv_spoilIn (e : Nat) (hI : s.Inv) : (spoilIn e s).Inv := by simp (maxDischargeDepth := 9) +contextual [spoilIn, hI, wfStore_wrStore, wfStore_map, wrW]

/-! ### Ports -/

@[simp] theorem inv_takeOff (n : Nat) (hI : s.Inv) : (takeOff n s).Inv := by simp (maxDischargeDepth := 9) +contextual [takeOff, hI, wfStore_wrStore, wfStore_map, wrW]

@[simp] theorem inv_takeOn (n : Nat) (hI : s.Inv) : (takeOn n s).Inv := by
  unfold takeOn; (try dsimp only); repeat' split
  all_goals (simp (maxDischargeDepth := 9) +contextual [hI, wfStore_wrStore, wfStore_map, wrW])

@[simp] theorem inv_raiseSlow (n : Nat) (hI : s.Inv) : (raiseSlow n s).Inv := by simp (maxDischargeDepth := 9) +contextual [raiseSlow, hI, wfStore_wrStore, wfStore_map, wrW]

@[simp] theorem inv_wireOpen (current : Bool) (n : Nat) (hI : s.Inv) : (wireOpen current n s).Inv := by simp (maxDischargeDepth := 9) +contextual [wireOpen, hI, wfStore_wrStore, wfStore_map, wrW]

@[simp] theorem inv_checkUv (n : Nat) (hI : s.Inv) : (checkUv n s).Inv := by
  unfold checkUv; (try dsimp only); repeat' split
  all_goals (simp (maxDischargeDepth := 9) +contextual [hI, wfStore_wrStore, wfStore_map, wrW])

@[simp] theorem inv_takePort (bad : Option (BitVec 2)) (n t v i : Nat) (hI : s.Inv) : (takePort bad n t v i s).Inv := by simp (maxDischargeDepth := 9) +contextual [takePort, hI, wfStore_wrStore, wfStore_map, wrW]

@[simp] theorem inv_dropPort (n : Nat) (hI : s.Inv) : (dropPort n s).Inv := by simp (maxDischargeDepth := 9) +contextual [dropPort, hI, wfStore_wrStore, wfStore_map, wrW]

/-! ### TypeC -/

@[simp] theorem inv_tcWake (t : Nat) (hI : s.Inv) : (tcWake t s).Inv := by simp (maxDischargeDepth := 9) +contextual [tcWake, hI, wfStore_wrStore, wfStore_map, wrW]

@[simp] theorem inv_tcFaulty (v : TcSt) (t : Nat) (hI : s.Inv) : (tcFaulty v t s).Inv := by simp (maxDischargeDepth := 9) +contextual [tcFaulty, hI, wfStore_wrStore, wfStore_map, wrW]

@[simp] theorem inv_tcBoundary (t : Nat) (cc : CcLevel × CcLevel) (hI : s.Inv) : (tcBoundary t cc s).Inv := by simp (maxDischargeDepth := 9) +contextual [tcBoundary, hI, wfStore_wrStore, wfStore_map, wrW]

@[simp] theorem inv_attachSink (t : Nat) (cc2 : Bool) (hI : s.Inv) : (attachSink t cc2 s).Inv := by simp (maxDischargeDepth := 9) +contextual [attachSink, hI, wfStore_wrStore, wfStore_map, wrW]

@[simp] theorem inv_discardSend (t : Nat) (hI : s.Inv) : (discardSend t s).Inv := by simp (maxDischargeDepth := 9) +contextual [discardSend, hI, wfStore_wrStore, wfStore_map, wrW]

@[simp] theorem inv_deliver (t sop : Nat) (bytes : List Byte) (hI : s.Inv) : (deliver t sop bytes s).Inv := by simp (maxDischargeDepth := 9) +contextual [deliver, hI, wfStore_wrStore, wfStore_map, wrW]

@[simp] theorem inv_acceptFrame (t sop : Nat) (bytes : List Byte) (hI : s.Inv) : (acceptFrame t sop bytes s).Inv := by simp (maxDischargeDepth := 9) +contextual [acceptFrame, hI, wfStore_wrStore, wfStore_map, wrW]

@[simp] theorem inv_ep4Request (f : State → State) (g : ∀ t, t.Inv → (f t).Inv) (hI : s.Inv) : (ep4Request f s).Inv := by
  unfold ep4Request; refine inv_onlyIf _ _ hI (fun _ => ?_); repeat' split
  all_goals simp [hI, g]

@[simp] theorem inv_ep4Port (t : TcId) (tag : Byte) (f : State → State) (g : ∀ t, t.Inv → (f t).Inv) (hI : s.Inv) :
    (ep4Port t tag f s).Inv := by
  unfold ep4Port; refine inv_ep4Request _ (fun t ht => ?_) hI; split <;> simp [ht, g]

end Sys2Proof.Machine
end

