-- ==== Sys2Proof/Laws/KeepsField.lean ====
section
/-!
SUPPORT. Every shared operation of commits, the fallow furrow, power states, the tandem pair and the boundary keeps the invariant of the machine.
-/

namespace Sys2Proof.Machine

set_option linter.all false

variable {s : State}

/-! ### Commit -/

@[simp] theorem inv_startPass (checking : Bool) (hI : s.Inv) : (startPass checking s).Inv := by simp (maxDischargeDepth := 9) +contextual [startPass, hI, wfStore_wrStore, wfStore_map, wrW]

@[simp] theorem inv_endPass (q : Pass) (hI : s.Inv) : (endPass q s).Inv := by simp (maxDischargeDepth := 9) +contextual [endPass, hI, wfStore_wrStore, wfStore_map, wrW]

@[simp] theorem inv_failCheck (code plot : Nat) (hI : s.Inv) : (failCheck code plot s).Inv := by simp (maxDischargeDepth := 9) +contextual [failCheck, hI, wfStore_wrStore, wfStore_map, wrW]

@[simp] theorem inv_stepEpoch (hI : s.Inv) : (stepEpoch s).Inv := by simp (maxDischargeDepth := 9) +contextual [stepEpoch, hI, wfStore_wrStore, wfStore_map, wrW]

@[simp] theorem inv_repause (hI : s.Inv) : (repause s).Inv := by simp (maxDischargeDepth := 9) +contextual [repause, hI, wfStore_wrStore, wfStore_map, wrW]

@[simp] theorem inv_reloadPlot (p : Nat) (hI : s.Inv) : (reloadPlot p s).Inv := by simp (maxDischargeDepth := 9) +contextual [reloadPlot, hI, wfStore_wrStore, wfStore_map, wrW]

@[simp] theorem inv_applyStep (st : CommitStep) (hI : s.Inv) : (applyStep st s).Inv := by simp (maxDischargeDepth := 9) +contextual [applyStep, hI, wfStore_wrStore, wfStore_map, wrW]

@[simp] theorem inv_fenceDone (hI : s.Inv) : (fenceDone s).Inv := by simp (maxDischargeDepth := 9) +contextual [fenceDone, hI, wfStore_wrStore, wfStore_map, wrW]

@[simp] theorem inv_pausePlots (l : List Nat) (hI : s.Inv) : (pausePlots l s).Inv := by simp (maxDischargeDepth := 9) +contextual [pausePlots, hI, wfStore_wrStore, wfStore_map, wrW]

@[simp] theorem inv_takeFence (hI : s.Inv) : (takeFence s).Inv := by simp (maxDischargeDepth := 9) +contextual [takeFence, hI, wfStore_wrStore, wfStore_map, wrW]

@[simp] theorem inv_acceptCommit (hI : s.Inv) : (acceptCommit s).Inv := by
  unfold acceptCommit; (try dsimp only); repeat' split
  all_goals (simp (maxDischargeDepth := 9) +contextual [hI, wfStore_wrStore, wfStore_map, wrW])

@[simp] theorem inv_closeCfg (hI : s.Inv) : (closeCfg s).Inv := by simp (maxDischargeDepth := 9) +contextual [closeCfg, hI, wfStore_wrStore, wfStore_map, wrW]

@[simp] theorem inv_acceptAutoload (hI : s.Inv) : (acceptAutoload s).Inv := by simp (maxDischargeDepth := 9) +contextual [acceptAutoload, hI, wfStore_wrStore, wfStore_map, wrW]

@[simp] theorem inv_shadowLoaded (hI : s.Inv) : (shadowLoaded s).Inv := by
  unfold shadowLoaded; (try dsimp only); repeat' split
  all_goals (simp (maxDischargeDepth := 9) +contextual [hI, wfStore_wrStore, wfStore_map, wrW])

@[simp] theorem inv_mismatchShadow (h : Shadow) (hI : s.Inv) : (mismatchShadow h s).Inv := by
  unfold mismatchShadow; (try dsimp only); repeat' split
  all_goals (simp (maxDischargeDepth := 9) +contextual [hI, wfStore_wrStore, wfStore_map, wrW])

/-! ### Fallow -/

@[simp] theorem inv_rollItem (p : Nat) (hI : s.Inv) : (rollItem p s).Inv := by simp (maxDischargeDepth := 9) +contextual [rollItem, hI, wfStore_wrStore, wfStore_map, wrW]

@[simp] theorem inv_movePlot (p f : Nat) (hI : s.Inv) : (movePlot p f s).Inv := by simp (maxDischargeDepth := 9) +contextual [movePlot, hI, wfStore_wrStore, wfStore_map, wrW]

@[simp] theorem inv_strandPlot (p f : Nat) (hI : s.Inv) : (strandPlot p f s).Inv := by simp (maxDischargeDepth := 9) +contextual [strandPlot, hI, wfStore_wrStore, wfStore_map, wrW]

@[simp] theorem inv_rehousePlot (p f : Nat) (hI : s.Inv) : (rehousePlot p f s).Inv := by
  unfold rehousePlot; (try dsimp only); repeat' split
  all_goals (simp (maxDischargeDepth := 9) +contextual [hI, wfStore_wrStore, wfStore_map, wrW])

@[simp] theorem inv_testedWord (a : Nat) (hI : s.Inv) : (testedWord a s).Inv := by simp (maxDischargeDepth := 9) +contextual [testedWord, hI, wfStore_wrStore, wfStore_map, wrW]

@[simp] theorem inv_retireWord (a : Nat) (hI : s.Inv) : (retireWord a s).Inv := by simp (maxDischargeDepth := 9) +contextual [retireWord, hI, wfStore_wrStore, wfStore_map, wrW]

/-! ### Power -/

@[simp] theorem inv_forTcs (f : Nat → State → State) (g : ∀ i t, t.Inv → (f i t).Inv) (hI : s.Inv) : (forTcs f s).Inv := by
  unfold forTcs; exact inv_forEach _ _ hI g

@[simp] theorem inv_connectUp (hI : s.Inv) : (connectUp s).Inv := by simp (maxDischargeDepth := 9) +contextual [connectUp, hI, wfStore_wrStore, wfStore_map, wrW, apply_ite Field.map, apply_ite Hub.ports, apply_ite Hub.ring, apply_ite Hay.queue, apply_ite Cfg.space, apply_ite Stby.bkp, apply_ite Stby.sram, apply_ite Tally.crcCnt, apply_ite Tally.malCnt, apply_ite Mem.commons, apply_ite Mem.ledger]

@[simp] theorem inv_restartPass (hI : s.Inv) : (restartPass s).Inv := by simp (maxDischargeDepth := 9) +contextual [restartPass, hI, wfStore_wrStore, wfStore_map, wrW]

@[simp] theorem inv_endStep (k : Nat) (hI : s.Inv) : (endStep k s).Inv := by simp (maxDischargeDepth := 9) +contextual [endStep, hI, wfStore_wrStore, wfStore_map, wrW]

@[simp] theorem inv_cancelAll (hI : s.Inv) : (cancelAll s).Inv := by simp (maxDischargeDepth := 9) +contextual [cancelAll, hI, wfStore_wrStore, wfStore_map, wrW]

@[simp] theorem inv_portsOff (hI : s.Inv) : (portsOff s).Inv := by simp (maxDischargeDepth := 9) +contextual [portsOff, hI, wfStore_wrStore, wfStore_map, wrW]

@[simp] theorem inv_busesOff (hI : s.Inv) : (busesOff s).Inv := by simp (maxDischargeDepth := 9) +contextual [busesOff, hI, wfStore_wrStore, wfStore_map, wrW]

/-! ### Tandem -/

@[simp] theorem inv_tandEvent (flag kind addr : Nat) (hI : s.Inv) : (tandEvent flag kind addr s).Inv := by
  unfold tandEvent; (try dsimp only); repeat' split
  all_goals (simp (maxDischargeDepth := 9) +contextual [hI, wfStore_wrStore, wfStore_map, wrW])

@[simp] theorem inv_badTandFrame (hI : s.Inv) : (badTandFrame s).Inv := by simp (maxDischargeDepth := 9) +contextual [badTandFrame, hI, wfStore_wrStore, wfStore_map, wrW]

@[simp] theorem inv_hearLink (type : Nat) (x : TLink) (f : State → State) (g : ∀ t, t.Inv → (f t).Inv) (hI : s.Inv) :
    (hearLink type x f s).Inv := by
  unfold hearLink; refine inv_onlyIf _ _ hI (fun _ => ?_); split
  · exact g _ hI
  · simp [hI]

@[simp] theorem inv_takeAck (ack : BitVec 16) (hI : s.Inv) : (takeAck ack s).Inv := by simp (maxDischargeDepth := 9) +contextual [takeAck, hI, wfStore_wrStore, wfStore_map, wrW]

@[simp] theorem inv_hearFrame (type : Nat) (x : TLink) (f : State → State) (g : ∀ t, t.Inv → (f t).Inv) (hI : s.Inv) :
    (hearFrame type x f s).Inv := by
  unfold hearFrame; refine inv_hearLink _ _ _ (fun t ht => ?_) hI; (try dsimp only); split
  · exact g _ (by simp [ht])
  · simp [ht]

theorem inv_sendRecs (n : Nat) (l : List (W × W)) (hI : s.Inv) : (sendRecs n l s).Inv := by
  induction n generalizing s l with
  | zero => exact hI
  | succ n ih => unfold sendRecs; split; exacts [hI, ih _ (by simp [hI])]

@[simp] theorem inv_sendMirror (hI : s.Inv) : (sendMirror s).Inv := by
  unfold sendMirror; (try dsimp only); split
  · simp [inv_sendRecs _ _ hI]
  · exact hI

@[simp] theorem inv_startSync (hI : s.Inv) : (startSync s).Inv := by
  unfold startSync; dsimp only
  simp only [inv_sendFrame, inv_sendRecs _ _ (inv_sendFrame _ ((inv_onTand _).mpr hI))]

@[simp] theorem inv_trySync (hI : s.Inv) : (trySync s).Inv := by simp (maxDischargeDepth := 9) +contextual [trySync, hI, wfStore_wrStore, wfStore_map, wrW]

@[simp] theorem inv_closeMirrored (m : MEntry) (hI : s.Inv) : (closeMirrored m s).Inv := by
  unfold closeMirrored; (try dsimp only); repeat' split
  all_goals (simp (maxDischargeDepth := 9) +contextual [hI, wfStore_wrStore, wfStore_map, wrW])

@[simp] theorem inv_addMirrored (w0 w1 : W) (hI : s.Inv) : (addMirrored w0 w1 s).Inv := by
  unfold addMirrored; (try dsimp only); repeat' split
  all_goals (simp (maxDischargeDepth := 9) +contextual [hI, wfStore_wrStore, wfStore_map, wrW])

@[simp] theorem inv_takeRec (r : W × W) (hI : s.Inv) : (takeRec r s).Inv := by
  unfold takeRec; (try dsimp only); repeat' split
  all_goals (simp (maxDischargeDepth := 9) +contextual [hI, wfStore_wrStore, wfStore_map, wrW])

theorem inv_drainRx (n : Nat) (hI : s.Inv) : (drainRx n s).Inv := by
  induction n generalizing s with
  | zero => exact hI
  | succ n ih =>
    unfold drainRx
    dsimp only
    split
    · exact hI
    · split
      · exact hI
      · split
        · exact ih (inv_takeGroup _ ((inv_onTand _).mpr hI) _ ‹_›)
        · exact hI

@[simp] theorem inv_closeForwarded (id ep status : Nat) (ws : List W) (hI : s.Inv) : (closeForwarded id ep status ws s).Inv := by simp (maxDischargeDepth := 9) +contextual [closeForwarded, hI, wfStore_wrStore, wfStore_map, wrW]

@[simp] theorem inv_loseSent (hI : s.Inv) : (loseSent s).Inv := by simp (maxDischargeDepth := 9) +contextual [loseSent, hI, wfStore_wrStore, wfStore_map, wrW]

@[simp] theorem inv_losePartner (hI : s.Inv) : (losePartner s).Inv := by simp (maxDischargeDepth := 9) +contextual [losePartner, hI, wfStore_wrStore, wfStore_map, wrW]

@[simp] theorem inv_foundKeeper (hI : s.Inv) : (foundKeeper s).Inv := by
  unfold foundKeeper; (try dsimp only); repeat' split
  all_goals (simp (maxDischargeDepth := 9) +contextual [hI, wfStore_wrStore, wfStore_map, wrW])

@[simp] theorem inv_becomeKeeper (hI : s.Inv) : (becomeKeeper s).Inv := by simp (maxDischargeDepth := 9) +contextual [becomeKeeper, hI, wfStore_wrStore, wfStore_map, wrW]

@[simp] theorem inv_resolveEntry (m : MEntry) (hI : s.Inv) : (resolveEntry m s).Inv := by
  unfold resolveEntry; (try dsimp only); repeat' split
  all_goals (simp (maxDischargeDepth := 9) +contextual [hI, wfStore_wrStore, wfStore_map, wrW])

@[simp] theorem inv_resolveSem (e : Nat × Sem) (hI : s.Inv) : (resolveSem e s).Inv := by simp (maxDischargeDepth := 9) +contextual [resolveSem, hI, wfStore_wrStore, wfStore_map, wrW]

@[simp] theorem inv_adoptGroup (g : List (Nat × TClass × Req)) (hI : s.Inv) : (adoptGroup g s).Inv := by
  unfold adoptGroup; dsimp only
  refine inv_forEach _ _ (by simp [hI]) (fun x t ht => ?_)
  split
  · simp (maxDischargeDepth := 12) +contextual [ht]
  · split
    · split <;> simp [ht]
    · cases e : takeReq _ x.2.2 t with
      | none => simpa using ht
      | some u => simpa using inv_takeReq _ _ ht _ e

@[simp] theorem inv_adoptAll (n : Nat) (l : List (Nat × TClass × Req)) (hI : s.Inv) : (adoptAll n l s).Inv := by
  induction n generalizing s l with
  | zero => exact hI
  | succ n ih =>
    unfold adoptAll; dsimp only; split
    · exact hI
    · exact ih _ (by simp [hI])

/-! ### Tick -/

@[simp] theorem inv_markSamples (hI : s.Inv) : (markSamples s).Inv := by simp (maxDischargeDepth := 9) +contextual [markSamples, hI, wfStore_wrStore, wfStore_map, wrW]

/-! ### Schedule -/

@[simp] theorem inv_overrunPlot (p : Nat) (hI : s.Inv) : (overrunPlot p s).Inv := by
  unfold overrunPlot; (try dsimp only); repeat' split
  all_goals (simp (maxDischargeDepth := 9) +contextual [hI, wfStore_wrStore, wfStore_map, wrW])

@[simp] theorem inv_boundaryPlot (p : Nat) (hI : s.Inv) : (boundaryPlot p s).Inv := by simp (maxDischargeDepth := 9) +contextual [boundaryPlot, hI, wfStore_wrStore, wfStore_map, wrW]

@[simp] theorem inv_passSlice (hI : s.Inv) : (passSlice s).Inv := by
  unfold passSlice; split
  · exact hI
  · (try dsimp only); split
    · exact hI
    · exact (inv_free _).mpr (by simp [hI])

@[simp] theorem inv_passBoundary (hI : s.Inv) : (passBoundary s).Inv := by simp (maxDischargeDepth := 9) +contextual [passBoundary, hI, wfStore_wrStore, wfStore_map, wrW]

@[simp] theorem inv_windowBoundary (hI : s.Inv) : (windowBoundary s).Inv := by simp (maxDischargeDepth := 9) +contextual [windowBoundary, hI, wfStore_wrStore, wfStore_map, wrW]

@[simp] theorem inv_scrub (hI : s.Inv) : (scrub s).Inv := by simp (maxDischargeDepth := 9) +contextual [scrub, hI, wfStore_wrStore, wfStore_map, wrW]

theorem length_dropZeroed (n : Nat) (l : List Plot) : (dropZeroed n l).length = l.length := by
  induction l generalizing n with
  | nil => rfl
  | cons p l ih => simp [dropZeroed, ih]

theorem wfStore_fillParcel (x : Nat) (m : Store CWord) (h : wfStore zeroWord m = true) :
    wfStore zeroWord (fillParcel x m) = true := wfFrom_filter _ _ h

@[simp] theorem inv_zeroFill (hI : s.Inv) : (zeroFill s).Inv := by
  unfold zeroFill
  refine inv_onMem _ (inv_onPlots _ hI (length_dropZeroed _ _)) ?_ (by simp [hI])
  have h1 : ∀ (l : List Nat) (m : Store CWord), wfStore zeroWord m = true →
      wfStore zeroWord (l.foldl (fun c x => fillParcel x c) m) = true := by
    intro l
    induction l with
    | nil => exact fun m h => h
    | cons x l ih => exact fun m h => ih _ (wfStore_fillParcel x m h)
  exact h1 _ _ hI.commons

@[simp] theorem inv_wardenSet (p : Nat) (adc : List (BitVec 12)) (hI : s.Inv) : (wardenSet p adc s).Inv := by simp (maxDischargeDepth := 9) +contextual [wardenSet, hI, wfStore_wrStore, wfStore_map, wrW]

@[simp] theorem inv_cadSet (p : Nat) (adc : List (BitVec 12)) (hI : s.Inv) : (cadSet p adc s).Inv := by simp (maxDischargeDepth := 9) +contextual [cadSet, hI, wfStore_wrStore, wfStore_map, wrW]

@[simp] theorem inv_adcInReset (hI : s.Inv) : (adcInReset s).Inv := by
  unfold adcInReset; (try dsimp only)
  refine inv_forEach _ _ (by (try split) <;> simp (maxDischargeDepth := 9) +contextual [hI, wfStore_wrStore, wfStore_map, wrW]) ?_
  intro a t ht
  (try dsimp only); repeat' split
  all_goals (simp (maxDischargeDepth := 9) +contextual [ht, wfStore_wrStore, wfStore_map, wrW])

@[simp] theorem inv_adcBoundary (adc : List (BitVec 12)) (hI : s.Inv) : (adcBoundary adc s).Inv := by simp (maxDischargeDepth := 9) +contextual [adcBoundary, hI, wfStore_wrStore, wfStore_map, wrW]

@[simp] theorem inv_wardenOpen (n : Nat) (hI : s.Inv) : (wardenOpen n s).Inv := by simp (maxDischargeDepth := 9) +contextual [wardenOpen, hI, wfStore_wrStore, wfStore_map, wrW]

@[simp] theorem inv_hubBoundary (hI : s.Inv) : (hubBoundary s).Inv := by simp (maxDischargeDepth := 9) +contextual [hubBoundary, hI, wfStore_wrStore, wfStore_map, wrW]

@[simp] theorem inv_tandBoundary (hI : s.Inv) : (tandBoundary s).Inv := by simp (maxDischargeDepth := 9) +contextual [tandBoundary, hI, wfStore_wrStore, wfStore_map, wrW]

@[simp] theorem inv_takeForce (hI : s.Inv) : (takeForce s).Inv := by
  unfold takeForce; (try dsimp only); repeat' split
  all_goals (simp (maxDischargeDepth := 9) +contextual [hI, wfStore_wrStore, wfStore_map, wrW])

@[simp] theorem inv_takeMemtest (hI : s.Inv) : (takeMemtest s).Inv := by simp (maxDischargeDepth := 9) +contextual [takeMemtest, hI, wfStore_wrStore, wfStore_map, wrW, apply_ite Field.map, apply_ite Hub.ports, apply_ite Hub.ring, apply_ite Hay.queue, apply_ite Cfg.space, apply_ite Stby.bkp, apply_ite Stby.sram, apply_ite Tally.crcCnt, apply_ite Tally.malCnt, apply_ite Mem.commons, apply_ite Mem.ledger]

@[simp] theorem inv_reloadLost (hI : s.Inv) : (reloadLost s).Inv := by simp (maxDischargeDepth := 9) +contextual [reloadLost, hI, wfStore_wrStore, wfStore_map, wrW]

@[simp] theorem inv_fieldBoundary (hI : s.Inv) : (fieldBoundary s).Inv := by simp (maxDischargeDepth := 9) +contextual [fieldBoundary, hI, wfStore_wrStore, wfStore_map, wrW]

@[simp] theorem inv_readyTick (hI : s.Inv) : (readyTick s).Inv := by simp (maxDischargeDepth := 9) +contextual [readyTick, hI, wfStore_wrStore, wfStore_map, wrW]

@[simp] theorem inv_endWakeDrive (hI : s.Inv) : (endWakeDrive s).Inv := by simp (maxDischargeDepth := 9) +contextual [endWakeDrive, hI, wfStore_wrStore, wfStore_map, wrW]

@[simp] theorem inv_everyBoundary (cc : List (CcLevel × CcLevel)) (hI : s.Inv) : (everyBoundary cc s).Inv := by simp (maxDischargeDepth := 9) +contextual [everyBoundary, hI, wfStore_wrStore, wfStore_map, wrW]

@[simp] theorem inv_liveBoundary (adc : List (BitVec 12)) (hI : s.Inv) : (liveBoundary adc s).Inv := by
  unfold liveBoundary
  dsimp only
  have h1 : ∀ t : State, t.Inv → (t.onSluices ageSluices).Inv := fun t ht =>
    inv_onSluices _ ht (wfStore_map _ _ ht.sluices)
  simp (maxDischargeDepth := 20) +contextual [hI, h1, inv_drainRx]

@[simp] theorem inv_funcWork (p ref : Nat) (hI : s.Inv) : (funcWork p ref s).Inv := by simp (maxDischargeDepth := 9) +contextual [funcWork, hI, wfStore_wrStore, wfStore_map, wrW]

@[simp] theorem inv_linkWork (p : Nat) (i : Item) (hI : s.Inv) : (linkWork p i s).Inv := by
  unfold linkWork; dsimp only; split
  · exact inv_drainRx _ (by simp [hI])
  · simp [hI]

@[simp] theorem inv_itemWork (p : Nat) (i : Item) (hI : s.Inv) : (itemWork p i s).Inv := by simp (maxDischargeDepth := 9) +contextual [itemWork, hI, wfStore_wrStore, wfStore_map, wrW]

@[simp] theorem inv_writeStaged (x : CommonsWrite × Bool) (hI : s.Inv) : (writeStaged x s).Inv := by simp (maxDischargeDepth := 9) +contextual [writeStaged, hI, wfStore_wrStore, wfStore_map, wrW]

end Sys2Proof.Machine
end

