-- ==== Sys2Proof/WellFormed.lean ====
section
/-!
DEFINITION. Which commands are well formed: the operands whose type admits more than the happening can bring.
Everything else about operands is fixed by their types, or is data the block itself checks and answers for.
-/

namespace Sys2Proof

/-- R471: 34 conversion slots a tick; R501: the CC balls of four ports. -/
def wfTick (adc : List (BitVec 12)) (cc : List (CcLevel × CcLevel)) : Bool :=
  decide (adc.length = 34) && decide (cc.length = 4)

/-- R29, R22: a capture point lies before cycle 60,000, where a stretched tick ends at the latest. -/
def wfCapture (cycle : Nat) : Bool := decide (cycle < 60000)

/-- R592: failing words come in ascending order, each once. -/
def wfAscending : List (BitVec 16) → Bool
  | [] => true
  | [_] => true
  | a :: b :: l => decide (a.toNat < b.toNat) && wfAscending (b :: l)

/-- The check of a command's operands. A well-formed command says what a happening can bring. -/
def Instr.wf : Instr → Bool
  | .tickBoundary adc cc => wfTick adc cc
  | .sofCapture cycle _ _ => wfCapture cycle
  | .memtestDone bad => wfAscending bad
  | _ => true

end Sys2Proof
end

