-- ==== Sys2Proof/Tests/Slice0.lean ====
section
/-!
SUPPORT. Tests: ill-formed commands are refused by the check of operands; values of the spec by hand; and for each
obligation with hypotheses a state and operands that meet them, clause by clause.
-/

namespace Sys2Proof.Tests

set_option Elab.async false

open Sys2Proof Sys2Proof.Machine

/-! ### The check of operands -/

def world : List (BitVec 12) := List.replicate 34 0x800
def ccOpen : List (CcLevel × CcLevel) := List.replicate 4 (.open, .open)

theorem test_wf_tick : Instr.wf (.tickBoundary world ccOpen) = true := by decide
theorem test_wf_tick_short_adc : Instr.wf (.tickBoundary (List.replicate 33 0) ccOpen) = false := by decide
theorem test_wf_tick_short_cc : Instr.wf (.tickBoundary world (List.replicate 3 (.open, .open))) = false := by decide
theorem test_wf_capture : Instr.wf (.sofCapture 59999 0 0) = true := by decide
theorem test_wf_capture_late : Instr.wf (.sofCapture 60000 0 0) = false := by decide
theorem test_wf_memtest : Instr.wf (.memtestDone [3, 4, 0xFFFF]) = true := by decide
theorem test_wf_memtest_order : Instr.wf (.memtestDone [4, 3]) = false := by decide
theorem test_wf_memtest_twice : Instr.wf (.memtestDone [4, 4]) = false := by decide
theorem test_decode_no_bits : decodeTableWord 8 0xA5 = none := by decide

/-! ### States -/

/-- Configuration words at their addresses, without the zero ones. -/
def words (l : List (Nat × Nat)) : Store W :=
  l.filterMap (fun e => if e.2 = 0 then none else some (e.1, BitVec.ofNat 32 e.2))

/-- Plot p runs with these words of its block, and the words of other blocks it uses. -/
def withPlot (p : Nat) (own far : List (Nat × Nat)) (s : State) : State :=
  s.onPlot p (fun q => { q with wc := words (own.map (fun e => (16 * p + e.1, e.2)) ++ far) })

/-- A device in RUN at boundary 1000, connected at high speed, the hub and the rack function configured, with the
USB window allowed to write. Every plot is IDLE. -/
def up : State :=
  { State.reset with
    pwr := { Pwr.reset with phase := .run, started := true, balls := true, vioMode := some true, c1Reset := false, vconnIn := true }
    tick := { Tick.reset with st := .locked, count := 1000, now := 1000 }
    hub := { Hub.reset with
      vbus := true, pullup := true, speed := 2, addr := 5, configured := true, fAddr := 6, fConfigured := true
      ports := List.replicate 16 HubPort.reset ++ [{ HubPort.reset with st := .enabled }] }
    usb := { UsbAcc.reset with mode := 2 } }

def phase (f : Phase) (s : State) : State := s.onPwr (fun p => { p with phase := f })

/-- P0 is the warden of the 16 ports, P1 the TT plot of DP1 to DP8, P2 to P4 run the culverts, P5 the rack function,
P6 stream 0. DP13 has Type-C with VCONN, and port and Type-C values of their own. -/
def bank : State :=
  let port (n : Nat) (tc : Nat) : List (Nat × Nat) :=
    [(0x20000 + 256 * n, 1 + 8 * 16 + 64 * 65536), (0x20001 + 256 * n, 1800 + 5000 * 65536), (0x20002 + 256 * n, 100 * 65536),
      (0x20003 + 256 * n, 0), (0x20005 + 256 * n, 50 * 65536), (0x20006 + 256 * n, 100 + 2 * 65536),
      (0x20007 + 256 * n, 4000 + 100 * 65536), (0x20008 + 256 * n, 2000 + 5 * 65536), (0x20009 + 256 * n, tc)]
  let culv (c : Nat) (f : Nat) : List (Nat × Nat) :=
    [(0x30000 + 1024 * c, f), (0x30004 + 1024 * c, 100 + 200 * 65536), (0x30005 + 1024 * c, 5 + 50 * 65536)]
  withPlot 0 [(0, 3), (8, 0xFFFF)] (port 0 0 ++ port 12 0x79)
    (withPlot 1 [(0, 1 + 100 * 256), (8, 0xFF), (9, 20)] []
    (withPlot 2 [(0, 2 + 100 * 256), (8, 0x10000)] (culv 0 (1 + 8 + 16 + 2 * 256) ++ [(0x30010, 100 + 50 * 65536), (0x30011, 4 + 5 * 256)])
    (withPlot 3 [(0, 2 + 100 * 256), (8, 0x20000)] (culv 1 1)
    (withPlot 4 [(0, 2 + 100 * 256), (8, 0x30000)] (culv 2 1)
    (withPlot 5 [(0, 5 + 100 * 256), (2, 100 * 65536), (9, 0xFFFE)] []
    (withPlot 6 [(0, 4 + 100 * 256), (9, 0), (10, 65536), (11, 100)] [] up))))))

/-! ### The machine, the tick generator, supplies and resets -/

theorem witness_StepTakesFront : ∃ s : State, s.pending = [] := ⟨up, rfl⟩

theorem witness_StepKeepsInv : ∃ s t : State, s.Inv ∧ step s = .next t :=
  ⟨{ bank with pending := [.vioC1Rise] }, _, by constructor <;> decide +kernel, rfl⟩

theorem witness_FuseStaysBlown : ∃ s t : State, s.nvm.fBlown = true ∧ step s = .next t :=
  ⟨{ up.onNvm (fun m => { m with fBlown := true }) with pending := [.tapReset] }, _, by decide +kernel, rfl⟩

/-- The windows' edges: 120 cycles after the boundary, 121, and 120 before the next at high speed. -/
theorem witness_SofCapture :
    (∃ (s : State) (h : Stretch), clocked s = true ∧ s.pwr.phase ≠ .rest ∧ s.hub.pullup = true ∧ s.tick.stretch = some h)
    ∧ (∃ (s : State) (c : Nat), clocked s = true ∧ s.pwr.phase ≠ .rest ∧ s.hub.pullup = true ∧ s.tick.stretch = none
        ∧ (phaseError s c).natAbs ≤ 120 ∧ 0 ≤ phaseError s c)
    ∧ (∃ (s : State) (c : Nat), s.tick.stretch = none ∧ (phaseError s c).natAbs ≤ 120 ∧ phaseError s c < 0)
    ∧ (∃ (s : State) (c : Nat), s.tick.stretch = none ∧ 120 < (phaseError s c).natAbs ∧ s.tick.st = .locked)
    ∧ (∃ (s : State) (c : Nat), s.tick.stretch = none ∧ 120 < (phaseError s c).natAbs ∧ s.tick.st ≠ .locked)
    ∧ ∃ (s : State) (c d : Nat), s.hub.speed = 2 ∧ c ≤ 15000 ∧ 15000 < d ∧ d < 30000 :=
  ⟨⟨up.onTick (fun t => { t with stretch := some ⟨500, none, false⟩ }), ⟨500, none, false⟩, by decide +kernel⟩, ⟨up, 120, by decide +kernel⟩,
    ⟨up, 29880, by decide +kernel⟩, ⟨up, 121, by decide +kernel⟩,
    ⟨up.onTick (fun t => { t with st := .free }), 29879, by decide +kernel⟩, ⟨up, 15000, 15001, by decide +kernel⟩⟩

theorem witness_SofDecision :
    (∃ s : State, clocked s = true ∧ s.pwr.phase ≠ .rest ∧ s.tick.decided = false ∧ expecting s = true
        ∧ s.tick.sofNow.isSome = true ∧ s.tick.curTrim.toInt.natAbs ≤ 32000)
    ∧ ∃ s : State, clocked s = true ∧ s.pwr.phase ≠ .rest ∧ s.tick.decided = false ∧ expecting s = true
        ∧ s.tick.sofNow = none ∧ s.tick.st = .acquire :=
  ⟨⟨up.onTick (fun t => { t with curTrim := 32000, sofNow := some ⟨120, 3, 2⟩ }), by decide +kernel⟩,
    ⟨up.onTick (fun t => { t with st := .acquire }), by decide +kernel⟩⟩

theorem witness_TickGeneratorRows :
    (∃ s : State, s.tick.st = .acquire ∧ 8 ≤ s.tick.missRun)
    ∧ (∃ (s : State) (h : Stretch), s.tick.stretch = some h ∧ h.endAt = none ∧ s.hub.speed ≠ 1)
    ∧ (∃ (s : State) (h : Stretch), s.tick.stretch = some h ∧ h.endAt = none ∧ s.hub.speed = 1)
    ∧ ∃ s : State, 64 ≤ s.tick.rangeTicks :=
  let st : Stretch := ⟨500, none, false⟩
  ⟨⟨up.onTick (fun t => { t with st := .acquire, missRun := 8 }), by decide +kernel⟩,
    ⟨up.onTick (fun t => { t with stretch := some ⟨500, none, false⟩ }), st, by decide +kernel⟩,
    ⟨(up.onTick (fun t => { t with stretch := some ⟨500, none, false⟩ })).onHub (fun h => { h with speed := 1 }), st, by decide +kernel⟩,
    ⟨up.onTick (fun t => { t with rangeTicks := 64 }), by decide +kernel⟩⟩

theorem witness_TickBoundary :
    (∃ (adc : List (BitVec 12)) (cc : List (CcLevel × CcLevel)) (s : State) (x : Sof),
      adc.length = 34 ∧ cc.length = 4 ∧ clocked s = true ∧ s.pwr.phase ≠ .rest ∧ stretchOpen s = false ∧ s.tick.sofNext = some x)
    ∧ (∃ (adc : List (BitVec 12)) (cc : List (CcLevel × CcLevel)) (s : State),
      adc.length = 34 ∧ cc.length = 4 ∧ clocked s = true ∧ s.pwr.phase ≠ .rest ∧ stretchOpen s = false
      ∧ s.tick.sofNext = none ∧ s.tick.uframe = 7)
    ∧ (∃ (adc : List (BitVec 12)) (cc : List (CcLevel × CcLevel)), adc.length ≠ 34 ∨ cc.length ≠ 4)
    ∧ ∃ (adc : List (BitVec 12)) (cc : List (CcLevel × CcLevel)) (s : State),
      adc.length = 34 ∧ cc.length = 4 ∧ s.pwr.phase = .rest ∧ s.tick.stretch = none ∧ s.tick.uframe = 7 :=
  ⟨⟨world, ccOpen, up.onTick (fun t => { t with sofNext := some ⟨5, 9, 1⟩ }), ⟨5, 9, 1⟩, by decide +kernel⟩,
    ⟨world, ccOpen, up.onTick (fun t => { t with uframe := 7 }), by decide +kernel⟩, ⟨[], ccOpen, by decide +kernel⟩,
    ⟨world, ccOpen, phase .rest (up.onTick (fun t => { t with uframe := 7 })), by decide +kernel⟩⟩

/-- P0 with an item of kind 0 that runs, of class Spate, and a reservation it exceeds. -/
def busyItem : Running := ⟨⟨0, 7⟩, .spate, 29000⟩
def busyPlot : State := bank.onPlot 0 (fun q => { q with running := some busyItem })

theorem witness_BoundaryLatchesCounts :
    ∃ (p : Nat) (s : State) (r : Running), s.plots.length = 63 ∧ p < 63 ∧ (s.plot p).running = some r
      ∧ cSpateRes (s.plot p).wc p < ((boundaryPlot p s).plot p).lastSpate := ⟨0, busyPlot, busyItem, by decide +kernel⟩

/-- P0 with one slot at cycle 1500 and an item of 10 cycles that fits it. -/
def slotPlot : State :=
  (withPlot 0 [(0, 3 + 100 * 256), (3, 65536), (4, 10 + 8192)] [(0x10000, 200 + 1500 * 32768 + 2 ^ 30)] up).onPlot 0
    (fun q => { q with ready := [⟨0, 7⟩] })

theorem witness_WorkItemRows :
    (∃ (p : PlotId) (c : Nat) (s : State) (r : Running),
      startable s p.val c = some r ∧ plotRuns s p.val = true ∧ (s.plot p.val).running = none)
    ∧ (∃ (p : PlotId) (c : Nat) (s : State), startable s p.val c = none)
    ∧ (∃ (p : PlotId) (s : State), (s.plot p.val).running = none)
    ∧ (∃ (p : PlotId) (c : Nat) (s : State) (r : Running), s.plots.length = 63 ∧ wfStore Sluice.empty s.sluices = true
        ∧ wfStore zeroWord s.mem.commons = true ∧ (s.plot p.val).running = some r ∧ c ≤ 30000 ∧ s.hay.injArm = false ∧ c = 30000)
    ∧ (∀ x ∈ [(true, Close.ok), (false, .poisoned)], let id := 9
      let s := up.onEntry id (fun _ => { noEntry with opn := x.1, close := x.2, cls := .spate, openAt := 998 })
      ((s.entry id).opn = true ∨ (s.entry id).close ≠ .ok) ∧ (s.entry id).cls = .spate
      ∧ (s.entry id).owner = 0 ∧ (s.entry id).emitted = false ∧ (s.entry id).late = false
      ∧ (s.entry id).openAt + 2 ≤ s.tick.now ∧ wfStore noEntry s.mem.ledger = true) :=
  ⟨⟨0, 1690, slotPlot, ⟨⟨0, 7⟩, .flow, 1690⟩, by decide +kernel⟩, ⟨0, 1691, slotPlot, by decide +kernel⟩, ⟨0, bank, by decide +kernel⟩,
    ⟨0, 30000, busyPlot, busyItem, by decide +kernel⟩, by decide +kernel⟩

theorem witness_ResetRelease :
    (∃ s : State, s.pwr.phase = .powerOn) ∧ (∃ s : State, s.pwr.rstN = false)
    ∧ ∃ s : State, s.pwr.phase = .standby ∧ s.pwr.runRecorded = true :=
  ⟨⟨phase .powerOn up, rfl⟩, ⟨up.onPwr (fun p => { p with rstN := false }), rfl⟩,
    ⟨phase .standby (up.onPwr (fun p => { p with runRecorded := true })), rfl, rfl⟩⟩

theorem witness_SeedingAndRelease :
    (∃ s : State, s.pwr.phase = .seeding) ∧ ∃ s : State, s.pwr.phase = .seeded :=
  ⟨⟨State.reset, rfl⟩, ⟨phase .seeded up, rfl⟩⟩

theorem witness_DeviceResets :
    (∃ s : State, s.pwr.phase ≠ .powerOn) ∧ (∃ s : State, s.pwr.phase = .standby)
    ∧ (∃ s : State, s.pwr.phase = .powerOn ∧ s.nvm.op = none ∧ s.nvm.fBusy = false)
    ∧ (∃ s : State, s.pwr.softUsb = true) ∧ (∃ s : State, s.pwr.wdogArmed = true)
    ∧ (∃ s : State, s.pwr.wdogArmed = false ∧ s.pwr.wdogJoin = true) ∧ (∃ s : State, clocked s = true)
    ∧ ∃ (key : BitVec 16) (s : State), mayAccess .tally s = true ∧ key ≠ 0x7A11 :=
  ⟨⟨up, by decide +kernel⟩, ⟨phase .standby up, rfl⟩, ⟨phase .powerOn up, by decide +kernel⟩,
    ⟨up.onPwr (fun p => { p with softUsb := true }), rfl⟩, ⟨up.onPwr (fun p => { p with wdogArmed := true }), rfl⟩,
    ⟨up.onPwr (fun p => { p with wdogArmed := false, wdogJoin := true }), rfl, rfl⟩, ⟨up, by decide +kernel⟩,
    ⟨0x7A10, up, by decide +kernel⟩⟩

theorem witness_PulsesAtReset :
    (∃ (s t : State), wfStore erasedWord s.nvm.store = true ∧ s.pwr.phase ≠ .powerOn
      ∧ exec .pinReset s = .next t ∧ s.nvm.op = none)
    ∧ (∃ (s : State) (a : Nat) (v : W), wfStore erasedWord s.nvm.store = true ∧ s.pwr.phase ≠ .powerOn
      ∧ s.nvm.op = some (.write, a, v))
    ∧ (∃ (s : State) (a : Nat) (v : W), wfStore erasedWord s.nvm.store = true ∧ s.pwr.phase ≠ .powerOn
      ∧ s.nvm.op = some (.erase, a, v))
    ∧ ∃ (s : State) (k : Nat) (old : W), wfStore 0 s.stby.bkp = true ∧ wfStore 0 s.stby.sram = true
      ∧ s.stby.prev = [(false, k, old)] :=
  ⟨⟨up, _, by decide +kernel, by decide +kernel, rfl, rfl⟩,
    ⟨up.onNvm (fun m => { m with op := some (.write, 511, 5) }), 511, 5, by decide +kernel⟩,
    ⟨up.onNvm (fun m => { m with op := some (.erase, 512, 0) }), 512, 0, by decide +kernel⟩,
    ⟨up.onStby (fun b => { b with bkp := [(3, 9)], prev := [(false, 3, 8)] }), 3, 8, by decide +kernel⟩⟩

theorem witness_SupplyRows :
    (∃ s : State, s.pwr.vioOk = true ∧ s.pwr.vioMode = none) ∧ (∃ s : State, s.pwr.vioOk = true ∧ clocked s = true)
    ∧ (∃ s : State, s.pwr.vioOk = false)
    ∧ (∃ (s : State) (b : Nat), s.pwr.vioAt = some b ∧ b + 64 ≤ s.tick.now ∧ s.pwr.c1Reset = true ∧ s.pwr.vioOk = true
        ∧ s.pwr.vioMode.isSome = true ∧ clocked s = true)
    ∧ (∃ s : State, s.pwr.vconnIn = true ∧ clocked s = true) ∧ (∃ s : State, s.pwr.phase = .run)
    ∧ (∃ s : State, s.pwr.vioOk = true ∧ s.pwr.c1Reset = true ∧ s.pwr.phase ≠ .powerOn ∧ s.pwr.balls = false)
    ∧ (∀ k ∈ [4, 6], let s := phase .shutdown (up.onPwr (fun p => { p with shutStep := k }))
      s.pwr.phase ≠ .powerOn ∧ s.pwr.balls = true ∧ s.pwr.phase = .shutdown ∧ s.pwr.shutStep = k)
    ∧ (∃ s : State, s.pwr.phase ≠ .powerOn ∧ s.pwr.balls = true ∧ s.pwr.blkHeld.getLsbD (4 + 1) = true)
    ∧ ∃ s : State, s.pwr.vioOk = true ∧ s.pwr.c1Reset = false ∧ s.pwr.balls = true ∧ s.pwr.phase = .seedFail :=
  ⟨⟨State.reset, rfl, rfl⟩, ⟨up, by decide +kernel⟩, ⟨up.onPwr (fun p => { p with vioOk := false }), rfl⟩,
    ⟨up.onPwr (fun p => { p with vioAt := some 936, c1Reset := true }), 936, by decide +kernel⟩, ⟨up, by decide +kernel⟩,
    ⟨up, rfl⟩, ⟨phase .held (up.onPwr (fun p => { p with balls := false, c1Reset := true })), by decide +kernel⟩, by decide +kernel,
    ⟨up.onPwr (fun p => { p with blkHeld := 0x20 }), by decide +kernel⟩, ⟨phase .seedFail up, by decide +kernel⟩⟩

theorem witness_BlockResets :
    (∃ (path : Path) (s : State), mayAccess path s = true)
    ∧ (∃ (s : State) (b : Nat), b < 10 ∧ s.pwr.blkReq.getLsbD b = true ∧ s.pwr.blkHeld.getLsbD b = false
        ∧ (s.pwr.phase = .run ∨ s.pwr.phase = .quiesce) ∧ blkIdle s b = true)
    ∧ ∃ (s : State) (b : Nat), b < 10 ∧ s.pwr.blkReq.getLsbD b = true ∧ s.pwr.blkHeld.getLsbD b = false
        ∧ ¬((s.pwr.phase = .run ∨ s.pwr.phase = .quiesce) ∧ blkIdle s b = true) :=
  ⟨⟨.usb, up, by decide +kernel⟩, ⟨up.onPwr (fun p => { p with blkReq := 0x10 }), 4, by decide +kernel⟩,
    ⟨phase .startup (up.onPwr (fun p => { p with blkReq := 0x200 })), 9, by decide +kernel⟩⟩

theorem witness_UpstreamBusReset : ∃ s : State, s.hub.pullup = true ∧ s.hub.ports.length = 17 := ⟨up, by decide +kernel⟩

theorem witness_PowerRequests :
    (∃ (path : Path) (s : State), mayAccess path s = true ∧ s.pwr.phase = .shutdown)
    ∧ (∃ (path : Path) (s : State), mayAccess path s = true ∧ s.pwr.phase ≠ .shutdown)
    ∧ ∃ s : State, s.pwr.phase = .rest ∧ s.pwr.wake = false :=
  ⟨⟨.tally, phase .shutdown up, by decide +kernel⟩, ⟨.usb, up, by decide +kernel⟩, ⟨phase .rest up, rfl, rfl⟩⟩

theorem witness_PowerStates :
    (∃ s : State, s.pwr.phase = .run ∧ s.pwr.reqQuiesce = true ∧ s.pwr.stopNew = true ∧ drained s = true ∧ s.plots.length = 63)
    ∧ (∃ s : State, s.pwr.resume = true ∧ (s.pwr.phase = .quiesce ∨ s.pwr.phase = .run ∧ s.pwr.reqQuiesce = true))
    ∧ (∃ s : State, s.pwr.phase = .run ∧ s.hub.susp = true ∧ s.pwr.restEn = true ∧ s.pwr.noRest = false
        ∧ s.pwr.reqQuiesce = false ∧ drained s = true ∧ s.tandPlot = none)
    ∧ (∃ s : State, s.pwr.phase = .run ∧ s.hub.susp = true ∧ s.pwr.restEn = true ∧ s.pwr.noRest = false
        ∧ s.pwr.reqQuiesce = false ∧ s.hub.susAt + 256 ≤ s.tick.now ∧ drained s = false)
    ∧ (∃ s : State, s.pwr.phase = .rest ∧ s.pwr.wake = false)
    ∧ (∃ s : State, s.pwr.phase = .rest ∧ s.pwr.wake = true ∧ s.pwr.wakeAt + 2 ≤ s.tick.now ∧ s.pwr.pendStandby = false)
    ∧ ∃ s : State, s.pwr.phase = .rest ∧ s.pwr.wake = true ∧ s.pwr.wakeAt + 2 ≤ s.tick.now ∧ s.pwr.pendStandby = true :=
  let sus : State := (bank.onHub (fun h => { h with susp := true, susAt := 744 })).onPwr (fun p => { p with restEn := true })
  let wok : State := phase .rest (up.onPwr (fun p => { p with wake := true, wakeAt := 998 }))
  ⟨⟨bank.onPwr (fun p => { p with reqQuiesce := true, stopNew := true }), by decide +kernel⟩,
    ⟨phase .quiesce (up.onPwr (fun p => { p with resume := true })), by decide +kernel⟩, ⟨sus, by decide +kernel⟩,
    ⟨sus.onEntry 0 (fun _ => { noEntry with opn := true }), by decide +kernel⟩, ⟨phase .rest up, rfl, rfl⟩,
    ⟨wok, by decide +kernel⟩, ⟨wok.onPwr (fun p => { p with pendStandby := true }), by decide +kernel⟩⟩

def down (k : Nat) : State := phase .shutdown (bank.onPwr (fun p => { p with shutStep := k, shutAt := 200 }))

theorem witness_ShutdownSteps :
    (∀ k ∈ [1, 4, 5, 6], let s := down k
      s.pwr.phase = .shutdown ∧ s.pwr.shutStep = k ∧ (s.pwr.started = false ∨ s.pwr.shutAt < s.tick.now)
      ∧ (handoverOpen s = false ∨ s.pwr.shutAt + 5 ≤ s.tick.now))
    ∧ (∃ s : State, s.pwr.phase = .shutdown ∧ s.pwr.shutStep = 2 ∧ drained s = true)
    ∧ (∃ s : State, s.pwr.phase = .shutdown ∧ s.pwr.shutStep = 3 ∧ ∀ n < 16, (s.port n).st = .off)
    ∧ (∃ s : State, s.pwr.phase = .shutdown ∧ s.pwr.shutStep = 3 ∧ s.pwr.shutAt + 800 ≤ s.tick.now ∧ (s.port 15).st ≠ .off)
    ∧ ∃ s : State, s.pwr.phase = .shutdown ∧ s.pwr.shutStep = 7 ∧ s.nvm.op = none :=
  ⟨by decide +kernel,
    ⟨down 2, by decide +kernel⟩, ⟨down 3, by decide +kernel⟩,
    ⟨(down 3).onPort 15 (fun p => { p with st := .on }), by decide +kernel⟩, ⟨down 7, by decide +kernel⟩⟩

/-! ### The configuration, fences, the fallow furrow and the self-tests -/

theorem witness_OpenCommitFence :
    (∃ (path : Path) (s : State), mayAccess path s = true ∧ foreignOwner s path = false ∧ s.cfg.isOpen = false)
    ∧ ∃ (path : Path) (s : State), mayAccess path s = true ∧ foreignOwner s path = false ∧ s.cfg.checking = false
      ∧ s.cfg.fenceList.length = 8 :=
  ⟨⟨.usb, up, by decide +kernel⟩, ⟨.tally, up.onCfg (fun c => { c with fenceList := [0, 1, 2, 3, 4, 5, 6, 62] }), by decide +kernel⟩⟩

/-- An image of one word, the first of the routing matrix (R222). -/
def imageUp : State :=
  phase .startup ((up.onCfg (fun c => { c with auto := true })).onNvm (fun m => { m with
    store := [(0x400, ⟨0x53454544, .good⟩), (0x401, ⟨0x10001, .good⟩), (0x402, ⟨33, .good⟩), (0x403, ⟨1, .good⟩),
      (0x404, ⟨0, .good⟩), (0x405, ⟨0, .good⟩), (0x406, ⟨0, .good⟩), (0x407, ⟨1270826594, .good⟩), (0x408, ⟨0x70000, .good⟩), (0x409, ⟨1, .good⟩)]
      ++ (List.range 23).map (fun k => (0x40A + k, ⟨0, .good⟩)) }))

/-- A configuration that passes every load check: a warden of the 16 ports, the TT plot of DP1 to DP8 and a rack
function, each with one slot, and the sources of the Hayward. -/
def goodList : List (Nat × Nat) :=
  let plot (p role c0 c1 w8 w9 : Nat) : List (Nat × Nat) :=
    [(16 * p, role + 25600), (16 * p + 2, 6553600), (16 * p + 3, 4 * p + 131072), (16 * p + 4, c0), (16 * p + 5, c1),
      (16 * p + 6, 0x60006000), (16 * p + 7, 0x60006000), (16 * p + 8, w8), (16 * p + 9, w9)]
  plot 0 3 0x200A200A 0x6000200A 0xFFFF 0 ++ plot 1 1 0x200A6000 0x200A6000 0xFF 100 ++ plot 2 5 0x200A6000 0x200A6000 0 0xFFFE
    ++ [(0x10000, 0x42EE00C8), (0x10001, 0xC0000000), (0x10004, 0x42EE00C8), (0x10005, 0xC0000000), (0x10008, 0x42EE00C8),
      (0x10009, 0xC0000000)]
    ++ sources.map (fun c => (0x50000 + 4 * c, 209))

def goodSpace : Store W := words goodList

/-- A commit at the end of its pass, with plot 2 changed against its working copy. -/
def good : State :=
  let s := up.onCfg (fun c => { c with
    space := goodSpace, hwTable := sliceStore goodSpace 0x50000 0x50400, devScope := extractDevice goodSpace, isOpen := true
    checking := true, pass := some ⟨64, 0, false, true⟩, ref := 0xFFFFFFFF })
  (s.onPlots (fun l => (List.range 63).map (fun p => { (l.getD p (Plot.reset p)) with wc := extractPlot goodSpace p }))).onPlot 2
    (fun q => { q with wc := wrW q.wc 42 5 })

def goodPass : Pass := ⟨64, 0, false, true⟩
def staged (f : List Nat) (s : State) : State := s.onCfg (fun c => { c with fenceList := f, fPending := true, fForCommit := true })

theorem good_src0 : (List.range' 0 64).any (srcBad goodSpace) = false := by decide +kernel
theorem good_src1 : (List.range' 64 64).any (srcBad goodSpace) = false := by decide +kernel
theorem good_src2 : (List.range' 128 64).any (srcBad goodSpace) = false := by decide +kernel
theorem good_src3 : (List.range' 192 64).any (srcBad goodSpace) = false := by decide +kernel
theorem good_routes : (List.range 64).any (routeBad goodSpace) = false := by decide +kernel

theorem good_tables : chkTables goodSpace = [] := by
  have e : List.range 256 = List.range' 0 64 ++ (List.range' 64 64 ++ (List.range' 128 64 ++ List.range' 192 64)) := by
    decide +kernel
  simp only [chkTables, e, List.any_append, good_src0, good_src1, good_src2, good_src3, good_routes]
  decide

/-- The checks that read the new words alone pass; the others are those of a commit in RUN. -/
theorem good_checks (s : State) (inRun : Bool) (h : s.cfg.space = goodSpace)
    (hr : inRun = false ∨ chkLinked s = [] ∧ chkFenceSpate s = [] ∧ chkNoSpare s = []) : (runChecks s true inRun).1 = 0 := by
  have e : [chkRole goodSpace, chkPorts goodSpace, chkCulvert goodSpace, chkSlot goodSpace, chkSpate goodSpace,
      chkBudget goodSpace, chkItem goodSpace, chkTurn goodSpace, chkCap goodSpace] = List.replicate 9 [] := by decide +kernel
  simp only [List.replicate, List.cons.injEq, and_true] at e
  obtain ⟨e1, e2, e3, e4, e5, e6, e7, e8, e9⟩ := e
  rcases hr with rfl | ⟨h1, h2, h3⟩
  · simp [runChecks, loadChecks, h, good_tables, e1, e2, e3, e4, e5, e6, e7, e8, e9]
  · simp [runChecks, loadChecks, h, good_tables, e1, e2, e3, e4, e5, e6, e7, e8, e9, h1, h2, h3]

theorem witness_CheckingAndAutoload :
    (∃ s : State, s.pwr.phase = .startup ∧ s.cfg.auto = true ∧ s.cfg.loaded = false ∧ headerOk s = true)
    ∧ (∃ s : State, s.cfg.commitAt = true ∧ (if s.usb.owner = 2 then s.uWin.wbuf = none else s.tWin.wbuf = none)
        ∧ (s.pwr.phase = .run ∨ s.pwr.phase = .quiesce ∨ s.pwr.phase = .startup))
    ∧ (∃ (s : State) (q : Pass), s.cfg.pass = some q ∧ q.k = 64 ∧ q.checking = false ∧ q.clean = true ∧ s.cfg.isOpen = false
        ∧ crc32Fin q.crc ≠ s.cfg.ref)
    ∧ ∃ (s : State) (q : Pass), s.cfg.pass = some q ∧ q.k = 64 ∧ q.checking = true ∧ s.cfg.auto = true
        ∧ crc32Fin q.crc = s.cfg.ref ∧ (runChecks s true false).1 = 0 :=
  ⟨⟨imageUp, by decide +kernel⟩, ⟨up.onCfg (fun c => { c with commitAt := true }), by decide +kernel⟩,
    ⟨up.onCfg (fun c => { c with pass := some ⟨64, 0, true, false⟩ }), ⟨64, 0, true, false⟩, by decide +kernel⟩,
    ⟨phase .startup (good.onCfg (fun c => { c with auto := true })), goodPass, rfl, rfl, rfl, rfl, by decide +kernel,
      good_checks _ _ rfl (Or.inl rfl)⟩⟩

def checked (s : State) (inRun : Bool) (code : Nat) : Prop :=
  s.cfg.pass = some goodPass ∧ goodPass.k = 64 ∧ goodPass.checking = true ∧ s.cfg.auto = false
    ∧ (runChecks s (decide (crc32Fin goodPass.crc = s.cfg.ref)) inRun).1 = code

theorem witness_CommitCheckEnd :
    (∃ s : State, checked s true 0 ∧ s.pwr.phase = .run ∧ stagedFence s = [] ∧ changedPlots s = [2])
    ∧ (∃ s : State, checked s true 0 ∧ s.pwr.phase = .run ∧ stagedFence s = [2] ∧ s.plots.length = 63)
    ∧ (∃ s : State, checked s false 0 ∧ s.pwr.phase = .quiesce ∧ s.plots.length = 63)
    ∧ (∃ s : State, checked s false 0 ∧ s.pwr.phase = .startup)
    ∧ (∃ s : State, checked s true 2 ∧ s.pwr.phase = .run) ∧ ∃ s : State, checked s true 13 ∧ s.pwr.phase = .run :=
  have ok (s : State) (inRun : Bool) (h : s.cfg.pass = some goodPass ∧ s.cfg.auto = false ∧ s.cfg.ref = 0xFFFFFFFF)
      (hs : s.cfg.space = goodSpace) (hr : inRun = false ∨ chkLinked s = [] ∧ chkFenceSpate s = [] ∧ chkNoSpare s = []) :
      checked s inRun 0 := ⟨h.1, rfl, rfl, h.2.1, by
        have e : crc32Fin goodPass.crc = 0xFFFFFFFF := by decide +kernel
        rw [h.2.2, e]; exact good_checks s inRun hs hr⟩
  ⟨⟨good, ok _ _ (by decide +kernel) rfl (Or.inr (by decide +kernel)), by decide +kernel⟩,
    ⟨staged [2] good, ok _ _ (by decide +kernel) rfl (Or.inr (by decide +kernel)), by decide +kernel⟩,
    ⟨phase .quiesce good, ok _ _ (by decide +kernel) rfl (Or.inl rfl), by decide +kernel⟩,
    ⟨phase .startup good, ok _ _ (by decide +kernel) rfl (Or.inl rfl), by decide +kernel⟩,
    ⟨good.onCfg (fun c => { c with ref := 5 }), by unfold checked; decide +kernel, rfl⟩,
    ⟨(staged [0] good).onPlot 0 (fun q => { q with wc := wrW q.wc 1 50 }), by unfold checked; decide +kernel, rfl⟩⟩

def joint (k : StepKind) : CommitStep := ⟨k, 900, [0, 5], true⟩

theorem witness_StartAndQuiesceApply :
    (∃ (s : State) (st : CommitStep), s.pwr.pendRun = true ∧ s.pwr.phase = .startup ∧ s.pwr.factory = false
        ∧ s.cfg.step = some st ∧ s.plots.length = 63 ∧ s.hub.vbus = true)
    ∧ ∃ (s : State) (st : CommitStep), s.cfg.step = some st ∧ st.kind = .quiesce ∧ st.at_ < s.tick.now ∧ s.plots.length = 63
      ∧ s.cfg.fPaused = true :=
  ⟨⟨phase .startup ((bank.onPwr (fun p => { p with pendRun := true })).onCfg (fun c => { c with step := some (joint .startup) })),
      joint .startup, by decide +kernel⟩,
    ⟨phase .quiesce (bank.onCfg (fun c => { c with step := some (joint .quiesce), fPaused := true })), joint .quiesce, by decide +kernel⟩⟩

theorem witness_FencesAndWindow :
    (∃ s : State, s.plots.length = 63 ∧ s.cfg.fPending = true ∧ s.cfg.fForCommit = false ∧ s.cfg.fPaused = false
        ∧ s.cfg.fAt < s.tick.now)
    ∧ (∃ s : State, s.plots.length = 63 ∧ s.cfg.fPaused = true ∧ s.cfg.fAt < s.tick.now ∧ s.cfg.step = none ∧ s.cfg.openWait = false)
    ∧ (∃ (s : State) (st : CommitStep), s.plots.length = 63 ∧ s.cfg.fPaused = true ∧ s.cfg.fAt < s.tick.now
        ∧ s.cfg.step = some st ∧ st.kind = .fence)
    ∧ ∃ s : State, s.cfg.isOpen = true ∧ s.cfg.checking = false ∧ 4096 ≤ s.cfg.window :=
  ⟨⟨bank.onCfg (fun c => { c with fPending := true, fenceList := [0], fAt := 999 }), by decide +kernel⟩,
    ⟨bank.onCfg (fun c => { c with fPaused := true, fenceList := [0], fAt := 999 }), by decide +kernel⟩,
    ⟨bank.onCfg (fun c => { c with fPaused := true, fenceList := [0, 5], step := some (joint .fence) }), joint .fence, by decide +kernel⟩,
    ⟨up.onCfg (fun c => { c with isOpen := true, window := 4096 }), by decide +kernel⟩⟩

def shadowing (why : ShadowWhy) (mism : Bool) : Shadow := ⟨why, 0, 0, 998, mism, []⟩
def shadowUp (h : Shadow) : State := bank.onField (fun x => { x with shadow := some h })

theorem witness_Swap : ∀ why ∈ [ShadowWhy.rotation, .update], ∀ mism ∈ [true, false],
    let h := shadowing why mism
    let s := shadowUp h
    let f := 63
    s.field.shadow = some h ∧ s.field.fallow = some f ∧ fieldSwaps s = true ∧ h.since + 2 ≤ s.tick.now ∧ s.plots.length = 63
      ∧ s.field.map.length = 64 ∧ h.plot < 63 ∧ f < 64 ∧ h.target < 64 ∧ f ≠ h.target := by decide +kernel

theorem witness_FallowRows :
    (∃ (path : Path) (s : State), mayAccess path s = true)
    ∧ (∃ (s : State) (f : Nat), fieldSwaps s = true ∧ s.field.fallow = some f
        ∧ 2 ^ (clampTo 12 20 s.field.period.toNat) ≤ s.field.counter)
    ∧ (∃ (s : State) (f : Nat), fieldSwaps s = true ∧ s.field.fallow = some f ∧ s.field.due = true ∧ s.field.halt = false
        ∧ fallowFree s = true ∧ s.field.noSpare = false ∧ s.field.testAt = none ∧ s.field.testWait = false
        ∧ inFence s (plotOn s ((f + 1) % 64)) = false ∧ f < s.field.map.length ∧ plotOn s ((f + 1) % 64) < s.plots.length)
    ∧ (∃ (s : State) (f : Nat), fieldSwaps s = true ∧ s.field.fallow = some f ∧ s.field.testWait = true ∧ s.field.testAt = none
        ∧ fallowFree s = true)
    ∧ (∃ (s : State) (f a : Nat), fieldSwaps s = true ∧ s.field.fallow = some f ∧ s.field.testAt = some a ∧ a + 292 ≤ s.tick.now)
    ∧ (∃ (s : State) (f p : Nat) (l : List Nat), fieldSwaps s = true ∧ s.field.fallow = some f ∧ swapPend s = p :: l
        ∧ s.cfg.step = none ∧ s.cfg.load = none ∧ s.field.shadow = none)
    ∧ (∃ s : State, 64 ≤ s.adc.zs.length ∧ setNear 64 40 (s.adc.zs.take 64) = true ∧ setNear 3413 82 (s.adc.rs.take 64) = true)
    ∧ (∃ s : State, 64 ≤ s.adc.zs.length ∧ setNear 64 40 (s.adc.zs.take 64) = false)
    ∧ ∃ (s : State) (bad : List (BitVec 16)), s.field.memRun = true ∧ wfStore zeroWord s.mem.commons = true ∧ bad = [0xFFFF] :=
  ⟨⟨.tally, up, by decide +kernel⟩, ⟨up.onField (fun x => { x with counter := 65536 }), 63, by decide +kernel⟩,
    ⟨up.onField (fun x => { x with due := true, testWait := false }), 63, by decide +kernel⟩, ⟨up, 63, by decide +kernel⟩,
    ⟨up.onField (fun x => { x with testAt := some 708, testWait := false }), 63, 708, by decide +kernel⟩,
    ⟨up.onCfg (fun c => { c with pend := [4] }), 63, 4, [], by decide +kernel⟩,
    ⟨up.onAdc (fun a => { a with zs := List.replicate 64 64, rs := List.replicate 64 3413 }), by decide +kernel⟩,
    ⟨up.onAdc (fun a => { a with zs := List.replicate 64 105, rs := List.replicate 64 3413 }), by decide +kernel⟩,
    ⟨up.onField (fun x => { x with memRun := true }), _, by decide +kernel, by decide +kernel, rfl⟩⟩

theorem witness_FurrowFailures :
    (∀ c ∈ [(FailCause.phase1, 1), (.phase1, 2), (.phase2, 3), (.phase2, 34), (.phase3, 290), (.localStore, 0)],
      let s := bank.onField (fun x => { x with testAt := some (1000 - c.2) })
      s.plots.length = 63 ∧ s.field.map.length = 64 ∧ s.field.fallow = some 63 ∧ fieldSwaps s = true ∧ faultFits c.1 s = true)
    ∧ (∃ (s : State) (p : PlotId) (r : Running), s.plots.length = 63 ∧ fieldRuns s = true ∧ (s.plot p.val).stranded = false
        ∧ (s.plot p.val).furrow ∉ s.field.pendFail ∧ (s.plot p.val).running = some r)
    ∧ (∃ (s : State) (f g p : Nat) (l : List Nat), s.field.pendFail = f :: l ∧ s.field.fallow = some g ∧ f < 64 ∧ g < 64 ∧ f ≠ g
        ∧ s.field.map.getD f ⟨63, .fallow⟩ = ⟨p, .carrying⟩ ∧ p < 63)
    ∧ ∃ (s : State) (f : Nat) (l : List Nat), s.field.pendFail = f :: l ∧ s.field.fallow = none ∧ idleGiver s = none ∧ f < 64
        ∧ (s.field.map.getD f ⟨63, .fallow⟩).fst = .carrying ∧ (s.field.map.getD f ⟨63, .fallow⟩).plot < 63 :=
  let full : State := up.onPlots (fun l => l.map (fun q => { q with wc := words [(16 * q.furrow, 1)] }))
  ⟨by decide +kernel, ⟨busyPlot, 0, busyItem, by decide +kernel⟩,
    ⟨up.onField (fun x => { x with pendFail := [0] }), 0, 63, 0, [], by decide +kernel⟩,
    ⟨full.onField (fun x => { x with pendFail := [0], fallow := none }), 0, [], by decide +kernel⟩⟩

/-! ### The tally port, the registers and the seed store -/

theorem witness_TallyFrames :
    (∃ (cmd : Byte) (clocks : Nat) (s : State), clocked s = true ∧ clocks ≠ 0 ∧ cmd.getLsbD 7 = true ∧ s.tally.lcrc = false
        ∧ clocks = 40)
    ∧ (∃ (cmd : Byte) (data : W) (crc : Byte) (clocks : Nat) (s : State), clocked s = true ∧ clocks = 48 ∧ cmd.getLsbD 7 = true
        ∧ s.tally.lcrc = true ∧ crc = crc8 (cmd :: frameBytes data))
    ∧ (∃ (cmd : Byte) (data : W) (crc : Byte) (clocks : Nat) (s : State), clocked s = true ∧ clocks = 48 ∧ cmd.getLsbD 7 = true
        ∧ s.tally.lcrc = true ∧ crc ≠ crc8 (cmd :: frameBytes data))
    ∧ (∃ (cmd crc : Byte) (clocks : Nat) (s : State), clocked s = true ∧ clocks = 56 ∧ cmd.getLsbD 7 = false
        ∧ s.tally.lcrc = true ∧ crc ≠ crc8 [cmd])
    ∧ (∃ (cmd : Byte) (clocks : Nat) (w : W) (s : State), clocked s = true ∧ clocks = 48 ∧ cmd.getLsbD 7 = false
        ∧ s.tally.lcrc = false ∧ cmd ≠ 0x05 ∧ cmd ≠ 0x1A ∧ directValue s .tally cmd.toNat = some w)
    ∧ (∃ (cmd : Byte) (clocks : Nat) (s : State), clocked s = true ∧ clocks = 48 ∧ cmd.getLsbD 7 = false
        ∧ s.tally.lcrc = false ∧ cmd ≠ 0x05 ∧ cmd ≠ 0x1A ∧ directValue s .tally cmd.toNat = none ∧ s.pwr.phase = .rest
        ∧ s.pwr.wake = false)
    ∧ ∃ (cmd crc : Byte) (clocks : Nat) (s : State), clocked s = true ∧ clocks = 57 ∧ cmd.getLsbD 7 = false
        ∧ s.tally.lcrc = true ∧ crc ≠ crc8 [cmd] ∧ 56 ≤ clocks :=
  let crcOn : State := up.onTally (fun t => { t with lcrc := true })
  ⟨⟨0x82, 40, up, by decide +kernel⟩, ⟨0x82, 0x12345678, crc8 [0x82, 0x12, 0x34, 0x56, 0x78], 48, crcOn, by decide +kernel⟩,
    ⟨0x82, 0, ~~~(crc8 [0x82, 0, 0, 0, 0]), 48, crcOn, by decide +kernel⟩, ⟨0x24, ~~~(crc8 [0x24]), 56, crcOn, by decide +kernel⟩,
    ⟨0x09, 48, 0, up, by decide +kernel⟩, ⟨0x7F, 48, phase .rest up, by decide +kernel⟩,
    ⟨0x24, ~~~(crc8 [0x24]), 57, crcOn, by decide +kernel⟩⟩


theorem witness_RegisterWrites :
    (∃ s : State, mayAccess .usb s = true ∧ foreignOwner s .usb = false ∧ s.cfg.checking = false ∧ s.cfg.isOpen = true)
    ∧ (∃ (v : W) (s : State), mayAccess .tally s = true ∧ v.bits 31 16 ≠ 0x7A11 ∧ s.stby.present = true)
    ∧ (∃ (path : Path) (s : State), mayAccess path s = true ∧ foreignOwner s path = true)
    ∧ (∃ (path : Path) (s : State), mayAccess path s = true ∧ foreignOwner s path = false ∧ s.cfg.checking = true)
    ∧ (∃ (path : Path) (s : State), mayAccess path s = true ∧ foreignOwner s path = false ∧ s.cfg.checking = false
        ∧ s.cfg.isOpen = false)
    ∧ ∃ (path : Path) (v : W) (s : State), mayAccess path s = true ∧ s.cfg.isOpen = false ∧ v.bit 0 ≠ s.cfg.hwMode :=
  ⟨⟨up.onCfg (fun c => { c with isOpen := true }), by decide +kernel⟩, ⟨0x7A100001, up, by decide +kernel⟩,
    ⟨.usb, up.onUsb (fun u => { u with owner := 1 }), by decide +kernel⟩,
    ⟨.usb, up.onCfg (fun c => { c with checking := true }), by decide +kernel⟩, ⟨.tally, up, by decide +kernel⟩,
    ⟨.tally, 1, up, by decide +kernel⟩⟩

def winUp (w : Win) : State := { up with tWin := w }

theorem witness_WindowRows :
    (∃ (path : Path) (s : State), mayAccess path s = true)
    ∧ (∀ path ∈ [Path.tally, .usb], ∀ s ∈ [(up.onField (fun x => { x with memRun := true })).onWin path (fun w =>
          { w with iwa := 0x100000 }), up, up.onWin path (fun w => { w with rdy := true, buf := ⟨0, false, false⟩ }),
          up.onWin path (fun w => { w with iwa := 0xFFFFFF, rdy := true, buf := ⟨5, true, true⟩ })],
        s.pwr.phase ≠ .rest ∧ clocked s = true ∧ vendorUp s = true ∧ mayAccess path s = true)
    ∧ (∃ s : State, (inCommons s.tWin.iwa.toNat && s.field.memRun) = true)
    ∧ (∃ s : State, (inCommons s.tWin.iwa.toNat && s.field.memRun) = false ∧ s.tWin.rdy = true
        ∧ s.tWin.buf.mapped = true ∧ s.tWin.iwa = 0xFFFFFF)
    ∧ (∃ s : State, mayAccess .tally s = true ∧ s.tWin.wbuf.isSome = true)
    ∧ (∃ s : State, mayAccess .tally s = true ∧ s.tWin.wbuf = none ∧ indGate s .tally s.tWin.iwa.toNat = .ok)
    ∧ (∀ x ∈ [(0x100000, true, Outc.denied), (0x500, false, .locked), (0x8000, false, .denied), (0xFFFFFF, false, .unmapped)],
      let s := (winUp { Win.reset with iwa := BitVec.ofNat 24 x.1 }).onField (fun f => { f with memRun := x.2.1 })
      mayAccess .tally s = true ∧ s.tWin.wbuf = none ∧ indGate s .tally s.tWin.iwa.toNat = x.2.2)
    ∧ (∃ (path : Path) (s : State), clocked s = true ∧ s.pwr.phase ≠ .rest ∧ (s.win path).rdy = false
        ∧ inCommons (s.win path).iwa.toNat = false ∧ (s.win path).wbuf = none)
    ∧ (∃ (path : Path) (v : W) (s : State), clocked s = true ∧ s.pwr.phase ≠ .rest ∧ (s.win path).rdy = false
        ∧ (s.win path).wbuf = some ((s.win path).iwa.toNat, v))
    ∧ (∃ (path : Path) (v : W) (s : State) (x : Nat), clocked s = true ∧ (s.win path).wbuf = some (0x80000 + x, v) ∧ x < 512
        ∧ s.stby.present = true ∧ x = 511)
    ∧ (∃ (path : Path) (s : State) (x : Nat), clocked s = true ∧ s.pwr.phase ≠ .rest ∧ (s.win path).rdy = false
        ∧ (s.win path).wbuf = none ∧ (s.win path).iwa.toNat = 0x100000 + x ∧ x < 0x10000 ∧ x = 0xFFFF)
    ∧ ∃ (path : Path) (v : W) (s : State) (x : Nat), clocked s = true ∧ wfStore 0 s.cfg.space = true
        ∧ (s.win path).wbuf = some (x, v) ∧ covered x = true :=
  ⟨⟨.usb, up, by decide +kernel⟩, by decide +kernel,
    ⟨(up.onField (fun x => { x with memRun := true })).onWin .tally (fun w => { w with iwa := 0x100000 }), by decide +kernel⟩,
    ⟨winUp { Win.reset with iwa := 0xFFFFFF, rdy := true, buf := ⟨5, true, false⟩ }, by decide +kernel⟩,
    ⟨winUp { Win.reset with wbuf := some (5, 6) }, by decide +kernel⟩,
    ⟨winUp { Win.reset with iwa := 0x80000 }, by decide +kernel⟩, by decide +kernel, ⟨.tally, up, by decide +kernel⟩,
    ⟨.tally, 6, winUp { Win.reset with wbuf := some (0, 6) }, by decide +kernel⟩,
    ⟨.tally, 6, winUp { Win.reset with wbuf := some (0x801FF, 6) }, 511, by decide +kernel⟩,
    ⟨.tally, winUp { Win.reset with iwa := 0x10FFFF }, 0xFFFF, by decide +kernel⟩,
    ⟨.tally, 6, winUp { Win.reset with wbuf := some (1007, 6) }, 1007, by decide +kernel⟩⟩

theorem witness_VendorRequests :
    (∃ (wValue : BitVec 16) (x : W) (s : State), clocked s = true ∧ s.pwr.phase ≠ .rest ∧ vendorUp s = true
        ∧ wValue.toNat ≤ 0x3F ∧ wValue ≠ 5 ∧ wValue ≠ 0x1A
        ∧ directValue (shown .usb s) .usb wValue.toNat = some x)
    ∧ (∃ (wValue : BitVec 16) (s : State), clocked s = true ∧ s.pwr.phase ≠ .rest ∧ vendorUp s = true
        ∧ wValue.toNat ≤ 0x3F ∧ directValue (shown .usb s) .usb wValue.toNat = none)
    ∧ (∃ s : State, clocked s = true ∧ s.pwr.phase ≠ .rest ∧ vendorUp s = true ∧ s.tally.hold = true)
    ∧ (∃ s : State, clocked s = true ∧ s.pwr.phase ≠ .rest ∧ vendorUp s = true ∧ s.tally.hold = false)
    ∧ (∃ s : State, vendorUp s = true ∧ s.pwr.phase ≠ .rest ∧ s.uWin.rdy = false ∧ (inCommons s.uWin.iwa.toNat && s.field.memRun) = false)
    ∧ (∃ s : State, vendorUp s = true ∧ s.pwr.phase ≠ .rest ∧ s.uWin.rdy = true ∧ (inCommons s.uWin.iwa.toNat && s.field.memRun) = false
        ∧ s.uWin.buf.mapped = true ∧ s.uWin.buf.poison = false)
    ∧ (∃ s : State, vendorUp s = true ∧ s.pwr.phase ≠ .rest ∧ s.usb.mode = 2 ∧ s.uWin.wbuf = none
        ∧ indGate s .usb s.uWin.iwa.toNat = .ok)
    ∧ (∃ s : State, clocked s = true ∧ s.pwr.phase ≠ .rest ∧ s.hub.pullup = true ∧ s.hub.susp = false ∧ s.hub.addr = 0)
    ∧ ∃ s : State, clocked s = true ∧ s.pwr.phase ≠ .rest ∧ s.hub.pullup = true ∧ s.hub.susp = false ∧ s.hub.addr ≠ 0
        ∧ (s.usb.mode = 0 ∨ s.usb.mode = 3) :=
  ⟨⟨9, 0, up, by decide +kernel⟩, ⟨0x37, up, by decide +kernel⟩,
    ⟨up.onTally (fun t => { t with hold := true }), by decide +kernel⟩, ⟨up, by decide +kernel⟩,
    ⟨up, by decide +kernel⟩, ⟨{ up with uWin := { Win.reset with rdy := true } }, by decide +kernel⟩,
    ⟨{ up with uWin := { Win.reset with iwa := 0x801FF } }, by decide +kernel⟩,
    ⟨up.onHub (fun h => { h with addr := 0 }), by decide +kernel⟩, ⟨up.onUsb (fun u => { u with mode := 3 }), by decide +kernel⟩⟩

/-- Sixteen words, at the last place they fit the standby SRAM. -/
theorem witness_IndirectRequests :
    (∃ (wValue wIndex wLength : BitVec 16) (s : State) (n : Nat), vendorUp s = true ∧ s.pwr.phase ≠ .rest ∧ s.uWin.wbuf = none
      ∧ wIndex.toNat < 256 ∧ 1 ≤ n ∧ n ≤ 16 ∧ wLength.toNat = 4 * n
      ∧ (∀ i < n, inCommons (BitVec.ofNat 24 (wValue.toNat + 65536 * wIndex.toNat) + BitVec.ofNat 24 (i * s.uWin.step.toNat)).toNat = false)
      ∧ s.usb.mode = 2 ∧ s.stby.present = true ∧ wfStore 0 s.stby.sram = true ∧ s.uWin.dir = false ∧ s.uWin.step = 1
      ∧ wValue.toNat + 65536 * wIndex.toNat = 0x80000 + 496 ∧ 496 + n ≤ 512)
    ∧ ∃ (wValue wIndex : BitVec 16) (s : State), vendorUp s = true ∧ s.pwr.phase ≠ .rest ∧ s.uWin.wbuf = none
      ∧ wIndex.toNat < 256 ∧ s.usb.mode = 2
      ∧ refusing (indGate s .usb (BitVec.ofNat 24 (wValue.toNat + 65536 * wIndex.toNat)).toNat) = true :=
  ⟨⟨496, 8, 64, up, 16, by decide +kernel⟩, ⟨0x8000, 0, up, by decide +kernel⟩⟩

def pulse (o : NvmOp) (a : Nat) : State := up.onNvm (fun m => { m with op := some (o, a, 0x55) })

theorem witness_SeedStoreRows :
    (∃ (path : Path) (a : BitVec 14) (s : State), mayAccess path s = true ∧ s.nvm.op = none
        ∧ s.seedWord a.toNat = ⟨0xFFFFFFFF, .good⟩)
    ∧ (∃ (path : Path) (a : BitVec 14) (s : State), mayAccess path s = true ∧ s.nvm.op = none
        ∧ s.seedWord a.toNat ≠ ⟨0xFFFFFFFF, .good⟩)
    ∧ (∃ (path : Path) (s : State), mayAccess path s = true ∧ s.nvm.op.isSome = true)
    ∧ (∃ (a : Nat) (v : W) (s : State), clocked s = true ∧ wfStore erasedWord s.nvm.store = true ∧ s.nvm.op = some (.write, a, v))
    ∧ (∃ (a : Nat) (v : W) (s : State), clocked s = true ∧ wfStore erasedWord s.nvm.store = true ∧ s.nvm.op = some (.erase, a, v))
    ∧ ∃ (a : Nat) (v : W) (s : State), s.pwr.phase = .held ∧ s.pwr.porDone = true ∧ s.pwr.rstN = true ∧ s.nvm.fBusy = false
        ∧ s.nvm.op = some (.write, a, v) :=
  ⟨⟨.tally, 0x3FFF, up, by decide +kernel⟩, ⟨.usb, 0, up.onNvm (fun m => { m with store := [(0, ⟨7, .good⟩)] }), by decide +kernel⟩,
    ⟨.usb, pulse .erase 512, by decide +kernel⟩, ⟨0x3FFF, 0x55, pulse .write 0x3FFF, by decide +kernel⟩,
    ⟨512, 0x55, pulse .erase 512, by decide +kernel⟩, ⟨3, 0x55, phase .held (pulse .write 3), by decide +kernel⟩⟩

theorem witness_FuseRows :
    (∃ s : State, mayAccess .tally s = true ∧ mayAccess .usb s = true ∧ s.pwr.phase = .quiesce)
    ∧ (∃ s : State, s.nvm.fArmed = true ∧ s.nvm.fBusy = false ∧ s.nvm.fArmedAt + 64 ≤ s.tick.now)
    ∧ ∃ s : State, s.nvm.fBusy = true ∧ clocked s = true :=
  ⟨⟨phase .quiesce up, by decide +kernel⟩, ⟨up.onNvm (fun m => { m with fArmed := true, fArmedAt := 936 }), by decide +kernel⟩,
    ⟨up.onNvm (fun m => { m with fBusy := true }), by decide +kernel⟩⟩

/-! ### The Hayward and the TAP -/

theorem witness_HaywardRegisters :
    (∃ (path : Path) (s : State), clocked s = true ∧ s.pwr.phase ≠ .rest ∧ vendorUp s = true ∧ s.tally.hold = true
        ∧ mayAccess path s = true)
    ∧ (∃ s : State, clocked s = true ∧ s.pwr.phase ≠ .rest ∧ vendorUp s = true ∧ s.tally.hold = false)
    ∧ (∃ s : State, s.hay.minRun = true) ∧ ∃ key : BitVec 16, key ≠ 0x5EED :=
  ⟨⟨.usb, up.onTally (fun t => { t with hold := true }), by decide +kernel⟩, ⟨up, by decide +kernel⟩,
    ⟨up.onHay (fun h => { h with minRun := true }), rfl⟩, ⟨0x5EEC, by decide⟩⟩

/-- Collector mode with a source: N = 2, W = 8 ticks; its event comes when one lies 7 ticks back. -/
def hayUp (c k : Nat) (q : SrcSt) : State :=
  (up.onCfg (fun f => { f with hwTable := words [(0x50000 + 4 * c, 2 + 256)] })).onHay (fun h => { h with
    mode := true, raised := [⟨c, k, 0⟩], srcs := [(c, q)] })

theorem witness_EventsAndMessages :
    (∃ (s : State) (e : Event), clocked s = true ∧ s.pwr.phase ≠ .rest ∧ s.hay.raised = [e] ∧ kindHazard e.kind = false
        ∧ s.hay.mode = false)
    ∧ (∃ (s : State) (e : Event), clocked s = true ∧ s.pwr.phase ≠ .rest ∧ s.hay.raised = [e] ∧ kindHazard e.kind = false
        ∧ s.hay.mode = true ∧ kindInfo e.kind = true)
    ∧ (∃ (s : State) (e : Event), clocked s = true ∧ s.pwr.phase ≠ .rest ∧ s.hay.raised = [e] ∧ kindHazard e.kind = false
        ∧ s.hay.mode = true ∧ kindInfo e.kind = false ∧ wfStore noSrc s.hay.srcs = true ∧ (s.src e.src).severe = true)
    ∧ ∃ (s : State) (e : Event) (t : Nat), clocked s = true ∧ s.pwr.phase ≠ .rest ∧ s.hay.raised = [e] ∧ kindHazard e.kind = false
        ∧ s.hay.mode = true ∧ kindInfo e.kind = false ∧ wfStore noSrc s.hay.srcs = true ∧ (s.src e.src).severe = false
        ∧ ((s.tick.now :: (s.src e.src).stamps).take 15)[effN s e.src - 1]? = some t ∧ s.tick.now - t < effW s e.src
        ∧ effN s e.src = 2 ∧ safeScope s.nvm.opt e.src = .none ∧ ¬(1 ≤ e.src ∧ e.src ≤ 0x3F) ∧ s.hay.queue.length < 64 :=
  ⟨⟨up.onHay (fun h => { h with raised := [⟨0x61, 5, 0⟩] }), ⟨0x61, 5, 0⟩, by decide +kernel⟩,
    ⟨hayUp 0x60 0x06 noSrc, ⟨0x60, 0x06, 0⟩, by decide +kernel⟩,
    ⟨hayUp 0x61 0x05 { noSrc with severe := true }, ⟨0x61, 0x05, 0⟩, by decide +kernel⟩,
    ⟨hayUp 0x61 0x05 { noSrc with stamps := [993] }, ⟨0x61, 0x05, 0⟩, 993, by decide +kernel⟩⟩

theorem witness_DeviceSafeState :
    (∃ (path : Path) (s : State), s.plots.length = 63 ∧ s.ports.length = 16 ∧ mayAccess path s = true ∧ s.hay.safeDev = false)
    ∧ (∃ (path : Path) (s : State), s.plots.length = 63 ∧ s.ports.length = 16 ∧ mayAccess path s = true ∧ s.hay.safeDev = true)
    ∧ ∃ s : State, s.plots.length = 63 ∧ s.ports.length = 16 ∧ clocked s = true ∧ s.pwr.phase ≠ .rest ∧ s.hay.safeDev = false :=
  ⟨⟨.usb, up, by decide +kernel⟩, ⟨.tally, up.onHay (fun h => { h with safeDev := true }), by decide +kernel⟩,
    ⟨phase .startup up, by decide +kernel⟩⟩

theorem witness_ReleasesAndRing :
    (∃ (c : BitVec 7) (s : State) (h : Nat), clocked s = true ∧ (s.src c.toNat).severe = true ∧ (s.src c.toNat).hold = some h
        ∧ h ≤ s.tick.now ∧ wfStore noSrc s.hay.srcs = true ∧ s.ports.length = 16 ∧ s.hay.queue.length < 64)
    ∧ (∃ s : State, clocked s = true ∧ s.hay.relReq = true ∧ s.ports.length = 16 ∧ severeAny s = true)
    ∧ (∃ s : State, clocked s = true ∧ s.hay.relReq = true ∧ s.ports.length = 16 ∧ severeAny s = false)
    ∧ (∃ s : State, funcUp s = true ∧ (s.ep 19).halted = false ∧ epServes s 3 = true ∧ s.hub.ringOut = none ∧ s.hub.ring = []
        ∧ BitVec.ofNat 16 (alertSrc s) = s.hub.ringAlert)
    ∧ (∃ s : State, funcUp s = true ∧ (s.ep 19).halted = false ∧ epServes s 3 = true ∧ s.hub.ringOut = none
        ∧ s.hub.ring.length = 15)
    ∧ ∃ (s : State) (n : Nat) (p : List W), funcUp s = true ∧ (s.ep 19).halted = false ∧ epServes s 3 = true
        ∧ s.hub.ringOut = some (n, p) :=
  let sev : State := hayUp 0x61 0x05 { noSrc with severe := true, hold := some 1000 }
  ⟨⟨0x61, sev, 1000, by decide +kernel⟩, ⟨sev.onHay (fun h => { h with relReq := true }), by decide +kernel⟩,
    ⟨up.onHay (fun h => { h with relReq := true }), by decide +kernel⟩, ⟨bank, by decide +kernel⟩,
    ⟨bank.onHub (fun h => { h with ring := List.replicate 15 9 }), by decide +kernel⟩,
    ⟨bank.onHub (fun h => { h with ring := [9], ringOut := some (1, [5, 6, 9]) }), 1, [5, 6, 9], by decide +kernel⟩⟩

theorem witness_TapRows :
    (∃ s : State, s.pwr.factory = true) ∧ (∃ s : State, s.tap.ir = .extest ∨ s.tap.ir = .sample)
    ∧ ∃ s : State, s.pwr.factory = false ∧ s.tap.ir ≠ .extest ∧ s.tap.ir ≠ .sample :=
  ⟨⟨up.onPwr (fun p => { p with factory := true }), rfl⟩, ⟨up.onTap (fun t => { t with ir := .sample }), by decide +kernel⟩,
    ⟨up, by decide +kernel⟩⟩

/-! ### The hub, its ports and the splits -/

/-- A split under way on DP1, to device 3 endpoint 2 IN, with ledger entry 9 open. -/
def split1 : Split := ⟨9, 0, 3, 2, true, false, [], 1, true, none, false⟩
def splitUp (x : Split) (cls : TClass) (at_ : Nat) : State :=
  (bank.onHub (fun h => { h with splits := [x] })).onEntry x.id (fun _ => { noEntry with
    opn := true, cls := cls, kind := .split, owner := 1, openAt := at_, limit := 20 })

theorem witness_HubRequests :
    (∃ (s : State) (tt : BitVec 16), usbUp s = true ∧ ttPorts s tt.toNat = none)
    ∧ (∃ (s : State) (tt : BitVec 16) (l : List Nat), usbUp s = true ∧ ttPorts s tt.toNat = some l
      ∧ (∀ x ∈ s.hub.splits, l.contains x.port = true → x.closed = true) ∧ s.hub.splits ≠ [])
    -- the split of the endpoint named, and the opposite endpoint, which names none
    ∧ ∀ dirIn ∈ [true, false], let s := splitUp split1 .flow 990
      ∃ (l : List Nat), usbUp s = true ∧ ttPorts s 1 = some l ∧ wfStore noEntry s.mem.ledger = true
      ∧ (l.contains split1.port = true ∧ split1.dev = 3 ∧ split1.ep = 2 ∧ split1.periodic = false ∧ split1.closed = false)
      ∧ s.hub.splits = [split1] ∧ (split1.dirIn = dirIn ↔ dirIn = true) :=
  ⟨⟨up, 2, by decide +kernel⟩,
    ⟨splitUp { split1 with closed := true } .flow 990, 1, List.range 16, by decide +kernel⟩,
    fun _ _ => ⟨List.range 16, by decide +kernel, by decide +kernel, by decide +kernel, by decide +kernel, rfl, by simp [split1]⟩⟩

theorem witness_ControlPipes :
    (∃ s : State, usbUp s = true ∧ s.hub.addr ≠ 0 ∧ s.hub.ports.length = 17 ∧ s.hub.speed = 2)
    ∧ (∃ (s : State) (v : Byte), usbUp s = true ∧ (s.hub.addr = 0 ∨ 1 < v.toNat))
    ∧ (∃ (s : State) (k i : Byte) (bs : List Byte), funcUp s = true ∧ optRuns s (s.funcPlot 0) = true
        ∧ descriptor s true k.toNat i.toNat = some bs ∧ wfStore FEp.reset s.hub.eps = true ∧ s.hub.fAddr ≠ 0)
    ∧ (∃ a : Byte, epIndex a = none)
    ∧ (∃ (s : State) (a k : Byte) (e p : Nat), funcUp s = true ∧ optRuns s (s.funcPlot 0) = true ∧ epIndex a = some e
        ∧ s.funcPlot (e % 16) = some p ∧ k = 1)
    ∧ ∃ (s : State) (a k : Byte) (e p : Nat), funcUp s = true ∧ optRuns s (s.funcPlot 0) = true ∧ epIndex a = some e
        ∧ s.funcPlot (e % 16) = some p ∧ s.plots.length = 63 ∧ p < 63 ∧ wfStore FEp.reset s.hub.eps = true
        ∧ ¬(k = 1 ∨ heldPackets s e ≠ [] ∨ (s.ep e).wait ≠ []
          ∨ cParcelCap (s.plot p).wc p < (s.plot p).parcels.length - (s.ep e).k + k.toNat
          ∨ freeParcels s < k.toNat - (s.ep e).k) :=
  ⟨⟨up, by decide +kernel⟩, ⟨up, 2, by decide +kernel⟩, ⟨bank, 3, 0, [4, 3, 0x09, 0x04], by decide +kernel⟩, ⟨0x05, by decide +kernel⟩,
    ⟨bank, 0x81, 1, 17, 5, by decide +kernel⟩, ⟨bank, 0x8F, 100, 31, 5, by decide +kernel⟩⟩

/-- The reset request and the others in every state of the port they act in, and one they do not act in. -/
def portIn (n : Nat) (v : UState) (a : List PAction) : State :=
  bank.onHubPort n (fun h => { h with st := v, act := a, deadline := 1000 })

theorem witness_PortRequests :
    (∃ (s : State) (n : HubPortId), usbUp s = true ∧ n.val < 16 ∧ (s.port n.val).latch = .none ∧ 12 ≤ n.val ∧ tcEn s (n.val - 12) = true)
    ∧ (∃ (s : State) (n : HubPortId), usbUp s = true ∧ n.val < 16 ∧ (s.port n.val).latch ≠ .none)
    ∧ (∃ (s : State) (n : HubPortId), usbUp s = true ∧ s.hub.ports.length = 17 ∧ n.val = 16)
    ∧ (∃ (s : State) (n : HubPortId), usbUp s = true ∧ n.val < 16 ∧ s.ports.length = 16 ∧ pAutoClr s n.val = true
        ∧ ((s.port n.val).latch = .ocp ∨ (s.port n.val).latch = .slowOc) ∧ (s.port n.val).classifying = false)
    ∧ (∀ a ∈ [PAction.reset, .suspend, .resume, .disable, .powerOn, .powerOff, .test 5],
        ∀ v ∈ [UState.poweredOff, .disabled, .enabled, .suspended], ∀ n ∈ [0, 16],
          let s := portIn n v [a]
          portRuns s n = true ∧ s.hub.ports.length = 17 ∧ (s.hubPort n).devResume = false ∧ (s.hubPort n).act = [a]
            ∧ (s.hubPort n).detect = [] ∧ (s.hubPort n).st = v ∧ ∀ x ∈ s.hub.splits, x.port ≠ n)
    ∧ (∃ (n : HubPortId) (s : State) (sp : Speed), portRuns s n.val = true ∧ s.hub.ports.length = 17 ∧ (s.hubPort n.val).devResume = false
        ∧ (s.hubPort n.val).detect = [some sp] ∧ (s.hubPort n.val).act = [] ∧ (s.hubPort n.val).st = .disconnected)
    ∧ ∃ s : State, (s.hubPort 0).st = .poweredOff ∧ (s.port 0).hostOn = true ∧ (s.port 0).st = .on
        ∧ (s.hubPort 0).act = [.powerOn] ∧ (s.hubPort 0).detect = [] ∧ portRuns s 0 = true :=
  let auto : State := withPlot 0 [(0, 3), (8, 0xFFFF)] [(0x20000, 1 + 2)] bank
  ⟨⟨bank, 12, by decide +kernel⟩, ⟨bank.onPort 3 (fun p => { p with latch := .ovp }), 3, by decide +kernel⟩,
    ⟨bank, 16, by decide +kernel⟩, ⟨auto.onPort 0 (fun p => { p with latch := .ocp }), 0, by decide +kernel⟩,
    by decide +kernel,
    ⟨15, (portIn 15 .disconnected []).onHubPort 15 (fun h => { h with detect := [some .full] }), .full, by decide +kernel⟩,
    ⟨(portIn 0 .poweredOff [.powerOn]).onPort 0 (fun p => { p with hostOn := true, st := .on }), by decide +kernel⟩⟩

theorem witness_PortAndHeadgateEvents :
    (∀ b ∈ [true, false],
        let s := (portIn 15 .disconnected []).onPwr (fun p =>
          { p with blkHeld := if b then 4 else 0, phase := if b then .run else .held })
        s.hub.ports.length = 17 ∧ s.hub.susp = false ∧ (s.hubPort 15).detect = [] ∧ (s.hubPort 15).st = .disconnected
          ∧ phyHeld s 15 = b ∧ portRuns s 15 = b)
    ∧ (∀ v ∈ [UState.disconnected, .disabled, .enabled, .suspended, .resuming, .reset],
        let s := portIn 15 v []
        portRuns s 15 = true ∧ s.hub.ports.length = 17 ∧ s.hub.susp = false ∧ (s.hubPort 15).st = v
          ∧ (s.hubPort 15).deadline ≤ s.tick.now ∧ (s.hubPort 15).act = [] ∧ (s.hubPort 15).detect = [] ∧ phyHeld s 15 = false
          ∧ ∀ x ∈ s.hub.splits, x.port ≠ 15)
    ∧ (∃ s : State, portRuns s 0 = true ∧ s.hub.ports.length = 17 ∧ s.hub.susp = false ∧ (s.hubPort 0).st = .suspended
        ∧ (s.hubPort 0).act = [] ∧ (s.hubPort 0).detect = [] ∧ (s.hubPort 0).devResume = true)
    ∧ (∀ w ∈ [true, false], let s := (portIn 16 .suspended []).onHub (fun h => { h with fRwake := w })
        (s.hubPort 16).st = .suspended ∧ s.hub.susp = false ∧ s.hub.ports.length = 17 ∧ s.hub.fRwake = w)
    ∧ (∃ s : State, s.hub.pullup = true ∧ s.hub.susp = false) ∧ (∃ s : State, s.hub.susp = true ∧ s.pwr.phase ≠ .rest)
    ∧ (∃ s : State, s.hub.susp = true ∧ s.hub.rwake = true ∧ s.hub.wakeCond = true ∧ s.hub.susAt + 40 ≤ s.tick.now)
    ∧ ∃ s : State, (s.hubPort 16).st = .reset :=
  ⟨by decide +kernel, by decide +kernel,
    ⟨(portIn 0 .suspended []).onHubPort 0 (fun h => { h with devResume := true }), by decide +kernel⟩, by decide +kernel,
    ⟨up, by decide +kernel⟩, ⟨up.onHub (fun h => { h with susp := true }), by decide +kernel⟩,
    ⟨up.onHub (fun h => { h with susp := true, rwake := true, wakeCond := true, susAt := 960 }), by decide +kernel⟩,
    ⟨portIn 16 .reset [], by decide +kernel⟩⟩

def isSplit (n : PortId) (d : BitVec 7) (e : BitVec 4) (dirIn : Bool) (x : Split) : Bool :=
  x.port = n.val && x.dev = d.toNat && x.ep = e.toNat && x.dirIn == dirIn

theorem witness_SplitRequests :
    (∃ (n : PortId) (s : State), usbUp s = true ∧ s.hub.speed = 2 ∧ s.hub.configured = true ∧ (∀ x ∈ s.hub.splits, x.id ≠ 0x4000)
        ∧ s.ttPlot n.val = none)
    ∧ (∃ (n : PortId) (s : State) (p : Nat), usbUp s = true ∧ s.hub.speed = 2 ∧ s.hub.configured = true
        ∧ (∀ x ∈ s.hub.splits, x.id ≠ 0x4000) ∧ s.ttPlot n.val = some p ∧ ttTakes s n.val = false)
    ∧ (∃ (n : PortId) (s : State) (p : Nat), usbUp s = true ∧ s.hub.speed = 2 ∧ s.hub.configured = true
        ∧ (∀ x ∈ s.hub.splits, x.id ≠ 0x4000) ∧ s.ttPlot n.val = some p ∧ ttFull s n.val = true)
    ∧ (∀ per ∈ [true, false], ∃ (n : PortId) (s : State) (p id : Nat), usbUp s = true ∧ s.hub.speed = 2 ∧ s.hub.configured = true
        ∧ (∀ x ∈ s.hub.splits, x.id ≠ 0x4000) ∧ s.ttPlot n.val = some p ∧ ttTakes s n.val = true ∧ ttFull s n.val = per
        ∧ allocId s p (cLedgerCap (s.plot p).wc p) (if per then .flow else ttNpClass (s.plot p).wc p n.val) = some id
        ∧ wfStore noEntry s.mem.ledger = true)
    ∧ (∃ (n : PortId) (d : BitVec 7) (e : BitVec 4) (s : State), usbUp s = true ∧ s.hub.speed = 2 ∧ s.hub.configured = true
        ∧ s.hub.splits.find? (fun x => isSplit n d e true x && (!x.closed || x.id = 0x4000)) = none)
    ∧ (∀ r ∈ [none, some AttemptResult.noAnswer, some (.answered .ack), some (.answered .nak), some (.answered .stall),
          some (.answered (.data [1, 2])), some (.poisoned [3])],
        let x := { split1 with onWire := false, result := r }
        let s := splitUp x .flow 990
        usbUp s = true ∧ s.hub.speed = 2 ∧ s.hub.configured = true
          ∧ s.hub.splits.find? (fun x => isSplit 0 3 2 true x && (!x.closed || x.id = 0x4000)) = some x ∧ x.closed = false
          ∧ x.result = r ∧ ¬((s.entry x.id).cls = .spate ∧ s.tick.now < (s.entry x.id).openAt + 2)
          ∧ (s.entry x.id).opn = true ∧ wfStore noEntry s.mem.ledger = true)
    ∧ ∃ (x : Split) (s : State), usbUp s = true ∧ s.hub.speed = 2 ∧ s.hub.configured = true
        ∧ s.hub.splits.find? (fun x => isSplit 0 3 2 true x && (!x.closed || x.id = 0x4000)) = some x ∧ x.closed = false
        ∧ x.result = some (.answered .ack) ∧ (s.entry x.id).cls = .spate ∧ s.tick.now < (s.entry x.id).openAt + 2 :=
  let two : State := bank.onHub (fun h => { h with splits := [split1, { split1 with id := 10, ep := 3 }] })
  ⟨⟨8, bank, by decide +kernel⟩, ⟨0, phase .quiesce bank, 1, by decide +kernel⟩, ⟨0, two, 1, by decide +kernel⟩,
    fun per _ => match per with
      | true => ⟨0, two, 1, 0, by decide +kernel⟩
      | false => ⟨7, bank, 1, 0, by decide +kernel⟩,
    ⟨0, 3, 1, splitUp split1 .flow 990, by decide +kernel⟩, by decide +kernel,
    ⟨{ split1 with result := some (.answered .ack) }, splitUp { split1 with result := some (.answered .ack) } .spate 999,
      by decide +kernel⟩⟩

theorem witness_SplitEnds :
    (∀ n ∈ [2, 3], ∀ c ∈ [true, false], ∃ (id : BitVec 14) (s : State) (x : Split),
      s.hub.splits.find? (fun x => x.id = id.toNat && x.onWire) = some x
        ∧ x.closed = c ∧ x.periodic = false ∧ x.attempts = n ∧ wfStore noEntry s.mem.ledger = true)
    ∧ (∃ (id : BitVec 14) (s : State), s.hub.splits.find? (fun x => x.id = id.toNat && x.onWire) = none)
    ∧ (∀ per ∈ [true, false],
        let x := { split1 with periodic := per }
        let s := splitUp x .flow 980
        let id : BitVec 14 := 9
        s.hub.splits.find? (fun x => x.id = id.toNat && !x.closed && x.periodic == per) = some x
          ∧ (s.entry id.toNat).opn = true ∧ timedOut s (s.entry id.toNat) = true ∧ wfStore noEntry s.mem.ledger = true
          ∧ s.hub.ports.length = 17 ∧ x.port < 16)
    ∧ ∃ (x : Split) (s : State), (s.entry x.id).opn = true ∧ wfStore noEntry s.mem.ledger = true :=
  ⟨fun n _ c _ => ⟨9, splitUp { split1 with attempts := n, closed := c } .flow 990, { split1 with attempts := n, closed := c },
      rfl, rfl, rfl, rfl, rfl⟩, ⟨9, bank, by decide +kernel⟩, by decide +kernel,
    ⟨split1, splitUp split1 .flow 990, by decide +kernel⟩⟩

/-! ### Sluices and cadence streams -/

/-- Sluice i with an open packet of two words for peer 3, one written. -/
def open1 : SOpen := ⟨⟨.flow, 3, 2⟩, [⟨5, 0, 3, false, false, false, false, 3, false⟩], 255, []⟩
def openNone : SOpen := { open1 with words := [] }
def openFull : SOpen := { open1 with words := open1.words ++ open1.words }
def onS (i : Nat) (q : Sluice) (s : State) : State := s.onSluice i (fun _ => q)
def word1 : SWord := ⟨5, 2, 3, false, false, false, false, 3, false⟩
def pkt1 : SPkt := ⟨.flow, [{ word1 with pos := 0 }, word1]⟩

theorem witness_SluiceWriting :
    (∀ peer ∈ [62, 63, 64, 0x59, 0x5A, 0x7F], ((peer < 63 ∨ 0x40 ≤ peer ∧ peer ≤ 0x59) ↔ peer ∉ [63, 0x5A, 0x7F]))
    ∧ (∃ (i : SluiceId) (s : State) (r : Running), wfStore Sluice.empty s.sluices = true ∧ clocked s = true
        ∧ (s.plot (i.val / 2)).running = some r ∧ i.val % 2 = 1 ∧ i.val < 126)
    ∧ (∃ (i : SluiceId) (cls : TClass) (len : BitVec 8) (s : State), wfStore Sluice.empty s.sluices = true ∧ clocked s = true
        ∧ len ≠ 0 ∧ len = 33 ∧ (s.plot (i.val / 2)).running = none ∧ 32 < len.toNat + (if cls = .spate then 0 else sSpateSt s i.val))
    ∧ (∃ (i : SluiceId) (cls : TClass) (len : BitVec 8) (s : State), wfStore Sluice.empty s.sluices = true ∧ clocked s = true
        ∧ len.toNat + (if cls = .spate then 0 else sSpateSt s i.val) ≤ 32 ∧ len = 32 ∧ (s.sluice i.val).opn = none
        ∧ (s.sluice i.val).claims = [] ∧ (s.sluice i.val).held = false ∧ (s.plot (i.val / 2)).running = none
        ∧ len.toNat + (if cls = .spate then 0 else sSpateSt s i.val) + sPktWords (s.sluice i.val) ≤ 32)
    ∧ (∀ q ∈ [{ Sluice.empty with opn := some open1 }, { Sluice.empty with held := true }, { Sluice.empty with pkts := [pkt1] }],
        ∃ (i : SluiceId) (len : BitVec 8) (s : State), wfStore Sluice.empty s.sluices = true ∧ clocked s = true
        ∧ s.sluice i.val = q ∧ len.toNat ≤ 32 ∧ (q.opn.isSome = true ∨ q.held = true ∨ 32 < len.toNat + sPktWords q))
    ∧ (∃ (i : SluiceId) (s : State) (c : SClaim), wfStore Sluice.empty s.sluices = true ∧ s.adc.sets = [] ∧ (s.sluice i.val).opn = none
        ∧ (s.sluice i.val).held = false ∧ (s.sluice i.val).claims.find? (fun c => c.cls = .spate) = some c
        ∧ c.len + sPktWords (s.sluice i.val) ≤ 32)
    ∧ (∃ (i : SluiceId) (s : State) (c : SClaim), wfStore Sluice.empty s.sluices = true ∧ s.adc.sets = [] ∧ (s.sluice i.val).opn = none
        ∧ (s.sluice i.val).held = false ∧ (s.sluice i.val).claims.find? (fun c => c.cls = .spate) = none
        ∧ (s.sluice i.val).claims.head? = some c ∧ 32 < c.len + sSpateSt s i.val + sPktWords (s.sluice i.val))
    ∧ (∃ (i : SluiceId) (s : State) (o : SOpen), wfStore Sluice.empty s.sluices = true ∧ (s.sluice i.val).opn = some o
        ∧ s.hay.injArm = false ∧ narrowPeer o.claim.peer = false ∧ (i.val % 2 = 1 → itemOf s i.val = false)
        ∧ o.words.length < o.claim.len ∧ o.part = [] ∧ sStale s i.val ≤ o.stale)
    ∧ (∃ (i : SluiceId) (s : State) (o : SOpen), wfStore Sluice.empty s.sluices = true ∧ (s.sluice i.val).opn = some o
        ∧ o.part = [] ∧ o.words = [] ∧ sStale s i.val ≤ o.stale)
    ∧ (∃ (i : SluiceId) (s : State) (o : SOpen), wfStore Sluice.empty s.sluices = true ∧ (s.sluice i.val).opn = some o
        ∧ o.part = [] ∧ narrowPeer o.claim.peer = true ∧ i.val % 2 = 0 ∧ o.words ≠ [] ∧ sStale s i.val ≤ o.stale)
    ∧ (∃ (i : SluiceId) (s : State) (o : SOpen), wfStore Sluice.empty s.sluices = true ∧ (s.sluice i.val).opn = some o
        ∧ s.hay.injArm = false ∧ narrowPeer o.claim.peer = false ∧ (i.val % 2 = 1 → itemOf s i.val = false)
        ∧ o.claim.len ≤ o.words.length)
    ∧ ∃ (i : SluiceId) (s : State), wfStore Sluice.empty s.sluices = true ∧ i.val % 2 = 1 ∧ itemOf s i.val = true
        ∧ (s.sluice i.val).opn.isSome = true :=
  let c1 : SClaim := ⟨.flow, 3, 31⟩
  let c2 : SClaim := ⟨.spate, 4, 30⟩
  ⟨by decide, ⟨1, busyPlot, busyItem, by decide +kernel⟩, ⟨0, .spate, 33, up, by decide +kernel⟩, ⟨127, .flow, 32, up, by decide +kernel⟩,
    by
      intro q hq
      refine ⟨5, 32, onS 5 q up, ?_⟩
      revert q
      decide +kernel,
    ⟨5, onS 5 { Sluice.empty with claims := [⟨.flow, 3, 31⟩, ⟨.spate, 4, 30⟩], pkts := [pkt1] } up, c2, by decide +kernel⟩,
    ⟨5, onS 5 { Sluice.empty with claims := [⟨.flow, 3, 31⟩], pkts := [pkt1] } up, c1, by decide +kernel⟩,
    ⟨5, onS 5 { Sluice.empty with opn := some open1 } up, open1, by decide +kernel⟩,
    ⟨5, onS 5 { Sluice.empty with opn := some openNone } up, openNone, by decide +kernel⟩,
    ⟨4, onS 4 { Sluice.empty with opn := some { open1 with claim := ⟨.flow, 0x51, 2⟩ } } up, { open1 with claim := ⟨.flow, 0x51, 2⟩ },
      by decide +kernel⟩,
    ⟨4, onS 4 { Sluice.empty with opn := some openFull } up, openFull, by decide +kernel⟩,
    ⟨1, onS 1 { Sluice.empty with opn := some open1 } busyPlot, by decide +kernel⟩⟩

theorem witness_SluiceTakes :
    (∃ (i : SluiceId) (s : State), wfStore Sluice.empty s.sluices = true ∧ i.val % 2 = 0 ∧ itemOf s i.val = true
        ∧ (sWords (s.sluice i.val))[(s.sluice i.val).staged]? = some word1 ∧ word1.parBad = false)
    ∧ (∃ (i : SluiceId) (s : State) (w : SWord), wfStore Sluice.empty s.sluices = true
        ∧ (sWords (s.sluice i.val))[(s.sluice i.val).staged]? = some w ∧ i.val % 2 = 1 ∧ w.peer = 62)
    ∧ (∃ (i : SluiceId) (s : State) (w : SWord), wfStore Sluice.empty s.sluices = true ∧ ¬(i.val % 2 = 0 ∧ itemOf s i.val = true)
        ∧ (s.sluice i.val).staged = 0 ∧ (sWords (s.sluice i.val))[0]? = some w ∧ i.val % 2 = 1 ∧ w.peer = 0x40 ∧ w.parBad = false)
    ∧ (∃ (i : SluiceId) (s : State) (w : SWord), wfStore Sluice.empty s.sluices = true ∧ i.val % 2 = 0
        ∧ (sWords (s.sluice i.val))[(s.sluice i.val).staged]? = some w ∧ w.parBad = true)
    ∧ (∃ (i : SluiceId) (s : State), wfStore Sluice.empty s.sluices = true ∧ (sWords (s.sluice i.val))[(s.sluice i.val).staged]? = none)
    ∧ (∃ (i : SluiceId) (s : State), wfStore Sluice.empty s.sluices = true ∧ (s.sluice i.val).staged = 0
        ∧ (s.sluice i.val).partly = false)
    ∧ (∃ (i : SluiceId) (s : State) (k : SPkt) (l : List SPkt), wfStore Sluice.empty s.sluices = true ∧ (s.sluice i.val).staged = 0
        ∧ (s.sluice i.val).partly = true ∧ (s.sluice i.val).pkts = k :: l ∧ k.words ≠ [] ∧ (∀ x ∈ l, x.words ≠ [])
        ∧ ¬(i.val % 2 = 0 ∧ itemOf s i.val = true))
    ∧ (∃ (p r : PlotId) (s : State), s.role r.val = rFUNC ∧ s.role p.val = rCAD ∧ s.plots.length = 63
        ∧ wfStore Sluice.empty s.sluices = true ∧ ∃ k l, (s.sluice (2 * p.val + 1)).pkts = k :: l ∧ k.words ≠ []
        ∧ (k.words.headD noWord).peer = r.val ∧ l = [] ∧ (s.sluice (2 * p.val + 1)).partly = false
        ∧ (∀ w ∈ k.words, w.parBad = false) ∧ s.sluice (2 * r.val) = Sluice.empty ∧ k.words.length + sSpateSt s (2 * r.val) ≤ 32)
    ∧ ∃ (p r : PlotId) (s : State) (k : SPkt) (l : List SPkt), wfStore Sluice.empty s.sluices = true
        ∧ (s.sluice (2 * p.val + 1)).pkts = k :: l ∧ (s.sluice (2 * p.val + 1)).partly = false ∧ k.words ≠ []
        ∧ (∀ x ∈ l, x.words ≠ []) ∧ (k.words.headD noWord).peer = r.val ∧ (∀ w ∈ k.words, w.parBad = false)
        ∧ (s.sluice (2 * r.val)).opn = none ∧ (s.sluice (2 * r.val)).claims = [] ∧ (s.sluice (2 * r.val)).held = false
        ∧ k.words.length + (if k.cls = .spate then 0 else sSpateSt s (2 * r.val)) + sPktWords (s.sluice (2 * r.val)) ≤ 32 :=
  ⟨⟨0, onS 0 { Sluice.empty with pkts := [pkt1], staged := 1 } busyPlot, by decide +kernel⟩,
    ⟨9, onS 9 { Sluice.empty with pkts := [⟨.flow, [{ word1 with peer := 62 }]⟩] } up, { word1 with peer := 62 }, by decide +kernel⟩,
    ⟨9, onS 9 { Sluice.empty with pkts := [⟨.flow, [{ word1 with peer := 0x40 }]⟩] } up, { word1 with peer := 0x40 }, by decide +kernel⟩,
    ⟨8, onS 8 { Sluice.empty with pkts := [⟨.flow, [{ word1 with parBad := true }]⟩] } up, { word1 with parBad := true }, by decide +kernel⟩,
    ⟨9, up, by decide +kernel⟩, ⟨9, up, by decide +kernel⟩,
    ⟨9, onS 9 { Sluice.empty with pkts := [pkt1, pkt1], partly := true } up, pkt1, [pkt1], by decide +kernel⟩,
    ⟨6, 5, onS 13 { Sluice.empty with pkts := [⟨.flow, [{ word1 with peer := 5 }]⟩] } bank, by decide +kernel, by decide +kernel, by decide +kernel,
      by decide +kernel, ⟨.flow, [{ word1 with peer := 5 }]⟩, [], by decide +kernel⟩,
    ⟨4, 3, onS 9 { Sluice.empty with pkts := [pkt1, pkt1] } up, pkt1, [pkt1], by decide +kernel⟩⟩

/-- Stream 0 with a tick that has ended, its packet with the FUNC plot where `sent`, and the running tick of two samples,
the first staged. -/
def sampled (st : SampSt) (at_ : Nat) (sent : Bool) : STick :=
  ⟨BitVec.ofNat 32 at_, 7, 131072, false, false, false, at_, [⟨0, st⟩, ⟨0, .missed⟩], sent, sent⟩
def streamUp (sent : Bool) (ids : List (Nat × Option Nat)) : State :=
  (bank.onCad 0 (fun c => { c with
    running := true, rate := 131072, pos := 458752, stagedIds := ids
    ticks := [sampled (if sent then .valid else .waiting) 998 sent, sampled .missed 1000 false] })).onEntry 9 (fun _ =>
      { noEntry with opn := true, kind := .culvert, owner := 6 })
/-- The same with a stream of class Spate and another requester's semaphore over its address. -/
def barredUp : State :=
  (withPlot 6 [(0, 4 + 100 * 256), (9, 2048), (10, 65536), (11, 100)] [] (streamUp true [(7, some 9)])).onCulv 0 (fun k =>
    { k with sems := [(0, ⟨5, 1, 950, 0, 1023, false⟩)] })

theorem witness_CadenceAndInPipes :
    (∀ e ∈ [1, 2, 4], funcUp bank = true ∧ epServes bank e = true ∧ (bank.ep (e + 16)).halted = false ∧ (bank.ep (e + 16)).pkts = [])
    ∧ (∀ n ∈ [0, 2], ∃ (s : State) (k : List W) (l : List (List W)), funcUp s = true ∧ (s.ep 17).halted = false ∧ epServes s 1 = true
        ∧ (s.ep 17).pkts = k :: l ∧ k ≠ [] ∧ (s.ep 17).k = n ∧ (s.ep 17).wait = [] ∧ wfStore FEp.reset s.hub.eps = true)
    ∧ (∃ s : State, funcUp s = true ∧ (s.ep 20).halted = true)
    ∧ (∃ (s : State) (v : BitVec 16), s.cads.length = 8 ∧ funcUp s = true ∧ optRuns s (s.funcPlot 0) = true ∧ v.toNat ≤ 7
        ∧ s.cadPlot v.toNat ≠ none)
    ∧ (∃ (s : State) (v : BitVec 16), s.cads.length = 8 ∧ funcUp s = true ∧ optRuns s (s.funcPlot 0) = true
        ∧ (7 < v.toNat ∨ s.cadPlot v.toNat = none))
    ∧ (∃ (s : State) (_ : StreamId), funcUp s = true ∧ s.hub.fConfigured = false)
    ∧ (∃ (s : State) (k : StreamId), funcUp s = true ∧ s.hub.fConfigured = true ∧ (s.ep (24 + k.val)).halted = true)
    ∧ (∃ (s : State) (k : StreamId), funcUp s = true ∧ s.hub.fConfigured = true ∧ (s.ep (24 + k.val)).halted = false
        ∧ s.cadPlot k.val = none)
    ∧ (∃ (s : State) (k : StreamId), funcUp s = true ∧ s.hub.fConfigured = true ∧ (s.ep (24 + k.val)).halted = false
        ∧ s.cadPlot k.val ≠ none ∧ epServes s (8 + k.val) = false)
    ∧ (∃ (s : State) (k : StreamId), funcUp s = true ∧ s.hub.fConfigured = true ∧ (s.ep (24 + k.val)).halted = false
        ∧ s.cadPlot k.val ≠ none ∧ epServes s (8 + k.val) = true ∧ offered s (s.cad k.val) = [])
    ∧ (∃ (s : State) (k : StreamId) (x : STick) (l : List STick), funcUp s = true ∧ s.hub.fConfigured = true
        ∧ (s.ep (24 + k.val)).halted = false
        ∧ s.cadPlot k.val ≠ none ∧ epServes s (8 + k.val) = true ∧ offered s (s.cad k.val) = x :: l)
    ∧ ∀ sent ∈ [true, false], let s := streamUp sent []
        s.cads.length = 8 ∧ s.cadPlot 0 = some 6 ∧ plotRuns s 6 = true ∧ (plotW (s.plot 6).wc 6 9).bit 3 = false
        ∧ toBuild s (s.cad 0) = (if sent then [] else [sampled .waiting 998 false]) ∧ s.funcPlot 8 = some 5
        ∧ (s.sluice 13).claims = [] ∧ wfStore Sluice.empty s.sluices = true ∧ s.hay.injArm = false
        ∧ claimFits s 13 ⟨.flow, 5, (ticksPacket 0 false (sampled .late 998 false) []).length⟩ = true :=
  ⟨by decide +kernel, fun n _ => ⟨bank.onEp 17 (fun q => { q with pkts := [[1, 2]], k := n }), [1, 2], [], by revert n; decide +kernel⟩,
    ⟨bank.onEp 20 (fun q => { q with halted := true }), by decide +kernel⟩, ⟨bank, 0, by decide +kernel⟩, ⟨bank, 7, by decide +kernel⟩,
    ⟨bank.onHub (fun h => { h with fConfigured := false }), 0, by decide +kernel⟩,
    ⟨bank.onEp 31 (fun q => { q with halted := true }), 7, by decide +kernel⟩, ⟨bank, 7, by decide +kernel⟩,
    ⟨bank.onPlot 5 (fun q => { q with stranded := true }), 0, by decide +kernel⟩,
    ⟨bank, 0, by decide +kernel⟩, ⟨streamUp true [], 0, sampled .valid 998 true, [], by decide +kernel⟩, by decide +kernel⟩

theorem witness_StreamsAndTimedReads :
    (∃ (k : StreamId) (s : State) (p : Nat), s.cadPlot k.val = some p ∧ s.hub.fConfigured = true ∧ s.cads.length = 8
        ∧ (s.cad k.val).running = true)
    ∧ (∀ ids ∈ [[], [(7, some 9)], [(7, none)], [(7, some 8)]],
        let s := streamUp true ids
        let t := sampled .missed 1000 false
        s.cads.length = 8 ∧ s.cadPlot 0 = some 6 ∧ tickNow s (s.cad 0) = some t ∧ 0 < t.samps.length
          ∧ (plotW (s.plot 6).wc 6 9).bit 3 = false ∧ t.samps.length ≤ 64 ∧ ((s.cad 0).pos + 65535) / 65536 + 0 = 7
          ∧ (s.entry 9).opn = true ∧ (s.entry 8).opn = false ∧ cadBarred s 6 = false)
    ∧ let s := barredUp
      let t := sampled .missed 1000 false
      s.cads.length = 8 ∧ s.cadPlot 0 = some 6 ∧ tickNow s (s.cad 0) = some t ∧ (plotW (s.plot 6).wc 6 9).bit 3 = false
      ∧ (s.cad 0).stagedIds = [(7, some 9)] ∧ (s.entry 9).opn = true ∧ cadBarred s 6 = true ∧ wfStore noEntry s.mem.ledger = true :=
  ⟨⟨0, streamUp true [], 6, by decide +kernel⟩, by decide +kernel, by decide +kernel⟩

/-! ### The culverts and the tandem pair -/

/-- An operation from the rack function, with ledger entry 9. -/
def cop (c : Nat) (kind : OpKind) (stat : OpStat) : COp :=
  { id := 9, culv := c, kind := kind, req := 5, ep := 1, tag := 7, cls := .flow, idem := false, chain := 0, unit := 0
    addr := 0x7FFF, count := 1, data := [], tx := [1, 2], rxLen := 1, got := [], done := 0, reply := [], attempts := 1
    stat := stat, fail := 0, frame := 0, closed := false, aux := 0, fwdId := 0, cancel := false, mute := false
    dueTick := 0, dueCyc := 0, late := false, fed := true, poison := false, runsOn := false }

def opsUp (c : Nat) (l : List COp) (ser : SerSt) : State :=
  ((bank.onCulv c (fun k => { k with ops := l, ser := ser })).onEntry 9 (fun _ => { noEntry with
    opn := true, cls := .flow, kind := .culvert, owner := 5, culv := c + 1, openAt := 800, limit := 200 })).onBus
      (fun b => { b with held := true, owed := true })

def sem0 : Sem := ⟨5, 1, 950, 0, 7, false⟩
/-- The operation waits for its culvert and no grant is owed. -/
def cancelUp (c : Nat) (o : COp) : State := (opsUp c [o] .idle).onBus (fun b => { b with held := false, owed := false })

theorem witness_CulvertRequests :
    (∀ sp ∈ [true, false], ∀ c ∈ [0, 1, 2],
        let s := bank
        let e := if sp then 2 else 1
        let cls : TClass := if sp then .spate else if (plotW (s.plot 5).wc 5 10).bit 1 then .seep else .flow
        s.funcPlot e = some 5 ∧ epServes s e = true ∧ accepting s = true ∧ (s.ep e).halted = false ∧ (s.ep e).pkts = []
          ∧ claimWaits s (2 * 5) 0x40 = false ∧ (s.ep e).drop = false ∧ s.tand.fwd = [] ∧ s.tand.toSend = []
          ∧ wfStore FEp.reset s.hub.eps = true ∧ s.tandPlot = none ∧ c < 3 ∧ kEnable s c = true ∧ (s.culvPlot c).isSome = true
          ∧ kStrict s c = false ∧ (s.culv c).sems = [] ∧ allocId s 5 (cLedgerCap (s.plot 5).wc 5) cls = some 0
          ∧ wfStore noEntry s.mem.ledger = true ∧ 2 ≤ kLockMax s ∧ (∀ o ∈ (s.culv c).ops, o.tag ≠ 7))
    ∧ (∃ (unit : BitVec 2) (a : BitVec 15) (n : BitVec 7), n ≠ 0 ∧ n.toNat * unitWords unit.toNat ≤ 64
        ∧ a.toNat + n.toNat * unitWords unit.toNat ≤ 0x8000 ∧ unit ≠ 0)
    ∧ (∃ (s : State) (a : BitVec 15) (n : BitVec 7) (ws : List (BitVec 12)), s.funcPlot 1 = some 5 ∧ epServes s 1 = true
        ∧ accepting s = true ∧ (s.ep 1).halted = false ∧ (s.ep 1).pkts = [] ∧ s.tandPlot = none ∧ n ≠ 0 ∧ n.toNat ≤ 64
        ∧ a.toNat + n.toNat ≤ 0x8000 ∧ bufHit s a.toNat n.toNat = some ws)
    ∧ (∃ (unit : BitVec 2) (a : BitVec 15) (d : List W), d ≠ [] ∧ d.length * unitWords unit.toNat ≤ 64
        ∧ a.toNat + d.length * unitWords unit.toNat ≤ 0x8000)
    ∧ (∃ (s : State) (c : CulvId) (x : BitVec 3) (m : Sem), s.funcPlot 1 = some 5 ∧ epServes s 1 = true ∧ accepting s = true
        ∧ (s.ep 1).halted = false ∧ (s.ep 1).pkts = [] ∧ s.tandPlot = none ∧ kEnable s c.val = true
        ∧ (s.culvPlot c.val).isSome = true ∧ ((s.culv c.val).sems.any (fun m => m.1 = x.toNat)) = true
        ∧ (x.toNat, m) ∈ (s.culv c.val).sems ∧ m.holder = 5 ∧ m.ep = 1)
    ∧ (∃ w : W, w.bits 31 18 ≠ 0) ∧ (∃ w : W, w.bits 9 8 = 0) ∧ (∃ w : W, w.bits 12 10 = 7)
    ∧ (∀ c ∈ [0, 1, 2], ∀ kind ∈ [OpKind.read, .write], let o := cop c kind .waiting
        let s := cancelUp c o
        s.funcPlot 1 = some 5 ∧ epServes s 1 = true ∧ accepting s = true ∧ claimWaits s (2 * 5) 0x40 = false
          ∧ (s.culv c).ops = [o] ∧ (∀ k < 3, k ≠ c → (s.culv k).ops = []) ∧ o.tag = 7 ∧ o.req = 5 ∧ o.ep = 1 ∧ o.culv = c
          ∧ o.chain = 0 ∧ o.closed = false ∧ o.mute = false ∧ o.done = 0 ∧ o.got = [] ∧ s.culvs.bus.owed = false
          ∧ (s.culv c).chainNow = 0 ∧ (s.entry o.id).opn = true ∧ kEnable s c = true ∧ (s.culvPlot c).isSome = true)
    ∧ (∃ s : State, s.funcPlot 1 = none) ∧ (∃ s : State, epServes s 1 = false) ∧ (∃ s : State, (s.ep 1).halted = true)
    ∧ (∃ s : State, accepting s = false)
    ∧ ∃ (s : State) (p : Nat), s.funcPlot 1 = some p ∧ claimWaits s (2 * p) 0x40 = true :=
  ⟨by decide +kernel, ⟨2, 0x7FFE, 1, by decide +kernel⟩,
    ⟨bank.onCulv 0 (fun k => { k with bufs := [(0, 100, [1, 2, 3, 4], 999)] }), 102, 2, [3, 4], by decide +kernel⟩,
    ⟨0, 0x7FFF, [5], by decide +kernel⟩, ⟨bank.onCulv 1 (fun k => { k with sems := [(7, sem0)] }), 1, 7, sem0, by decide +kernel⟩,
    ⟨0x40000, by decide +kernel⟩, ⟨0x3C00, by decide +kernel⟩, ⟨0x1D00, by decide +kernel⟩, by decide +kernel,
    ⟨up, by decide +kernel⟩, ⟨up, by decide +kernel⟩, ⟨bank.onEp 1 (fun q => { q with halted := true }), by decide +kernel⟩,
    ⟨phase .quiesce bank, by decide +kernel⟩,
    ⟨onS 10 { Sluice.empty with opn := some open1, claims := [⟨.flow, 0x40, 16⟩] } bank, 5, by decide +kernel⟩⟩

abbrev c1May (s : State) : Bool :=
  kArbiter s && tandAllows s && !s.pwr.c1Reset && !s.culvs.c1.safe && (s.culvPlot 0).isSome && kEnable s 0 && busLive s
    && !s.pwr.blkHeld.getLsbD 4

def c1Read1 : State := opsUp 0 [cop 0 .read .waiting] .idle
/-- A device whose configuration makes it no arbiter. -/
def guest (s : State) : State :=
  withPlot 2 [(0, 2 + 100 * 256), (8, 0x10000)] [(0x30000, 1), (0x30004, 100 + 200 * 65536)] s

theorem witness_C1BusAndBursts :
    (∃ s : State, c1May s = true ∧ s.culvs.bus.held = false ∧ s.culvs.bus.granting = false ∧ c1Work s = true
        ∧ s.culvs.bus.foreignLast = true)
    ∧ (∃ s : State, c1May s = true ∧ s.culvs.bus.held = false ∧ s.culvs.bus.granting = false ∧ c1Work s = false)
    ∧ (∃ s : State, kArbiter s = false ∧ c1Work s = true ∧ s.culvs.bus.held = false)
    ∧ (∃ s : State, s.culvs.bus.granting = true)
    ∧ (∃ s : State, s.culvs.bus.held = true ∧ wireOp s 0 = none ∧ s.culvs.c1.chainNow = 0 ∧ c1Work s = true
        ∧ kTenure s ≤ s.culvs.bus.phases)
    ∧ (∃ (r : BitVec 3) (s : State) (p w : Nat), s.culvPlot 0 = some p ∧ rdStore 0 s.culvs.c1.pfWant r.toNat = w + 1
        ∧ accepting s = false)
    ∧ (∃ (r : BitVec 3) (s : State) (p w id : Nat), s.culvPlot 0 = some p ∧ plotRuns s p = true ∧ accepting s = true
        ∧ s.pwr.blkHeld.getLsbD 4 = false ∧ w < 0x8000 ∧ rdStore 0 s.culvs.c1.pfWant r.toNat = w + 1 ∧ s.culvs.c1.pfBuf.contains r.toNat = true
        ∧ w < kQrBase s r.toNat + kQrLen s r.toNat ∧ kQrLen s r.toNat ≠ 0 ∧ wfStore noEntry s.mem.ledger = true
        ∧ allocId s p (cLedgerCap (s.plot p).wc p) .seep = some id)
    ∧ (∃ (c : CulvId) (x : BitVec 3) (m : Sem) (s : State), (s.culv c.val).sems.find? (fun k => k.1 = x.toNat) = some (x.toNat, m)
        ∧ kSemTimeout s c.val ≤ s.tick.now - m.since)
    ∧ (∃ (c : CulvId) (s : State) (o : COp), culvUsable s c.val = true ∧ nextOp s c.val = some o
        ∧ (∀ x ∈ (s.culv c.val).ops, x.stat = .waiting ∧ x.fail = 0) ∧ wfStore noEntry s.mem.ledger = true
        ∧ (s.entry o.id).opn = true ∧ c.val = 0 ∧ s.culvs.bus.held = true ∧ culvWaits s 0 = false)
    ∧ (∃ (c : CulvId) (s : State) (o : COp), culvUsable s c.val = true ∧ nextOp s c.val = some o
        ∧ (∀ x ∈ (s.culv c.val).ops, x.stat = .waiting ∧ x.fail = 0) ∧ wfStore noEntry s.mem.ledger = true
        ∧ (s.entry o.id).opn = true ∧ c.val ≠ 0 ∧ ((s.culv c.val).ser = .idle ∨ (s.culv c.val).ser = .spacing)
        ∧ culvWaits s c.val = false)
    ∧ (let o := { cop 0 .rmw .onWire with chain := 1, done := 1, got := [0xABC], data := [mkW [(0, 12, 0x0F0), (16, 12, 0x800)]] }
       let s := opsUp 0 [o] .idle
       s.culvs.c1.ops = [o] ∧ o.closed = false ∧ o.cancel = false ∧ s.hay.injArm = false ∧ (s.entry o.id).opn = true
       ∧ wfStore noEntry s.mem.ledger = true)
    ∧ ∃ (s : State) (o : COp) (ph : List C1Phase) (x : C1Phase) (p : Nat), s.culvs.c1.ops = [] ++ o :: [] ∧ o.stat = .onWire
        ∧ o.kind = .read ∧ o.chain = 0 ∧ o.closed = false ∧ o.cancel = false ∧ o.mute = false ∧ o.req ≠ 0x59 ∧ o.done = 0
        ∧ o.got = [] ∧ s.hay.injArm = false ∧ (s.entry o.id).opn = true ∧ wfStore noEntry s.mem.ledger = true
        ∧ wfStore FEp.reset s.hub.eps = true ∧ ph.length = o.count * unitWords o.unit ∧ o.count ≠ 0
        ∧ (∀ x ∈ ph, x.parOk = true) ∧ kParChk s = true ∧ x.parOk = false ∧ s.culvPlot 0 = some p :=
  let idle : State := c1Read1.onBus (fun b => { b with held := false, owed := false, foreignLast := true })
  ⟨⟨idle, by decide +kernel⟩, ⟨bank, by decide +kernel⟩, ⟨guest idle, by decide +kernel⟩,
    ⟨bank.onBus (fun b => { b with granting := true }), by decide +kernel⟩,
    ⟨c1Read1.onBus (fun b => { b with phases := 5 }), by decide +kernel⟩,
    ⟨0, phase .quiesce (bank.onCulv 0 (fun k => { k with pfWant := [(0, 150)], pfBuf := [0] })), 2, 149, by decide +kernel⟩,
    ⟨0, bank.onCulv 0 (fun k => { k with pfWant := [(0, 150)], pfBuf := [0] }), 2, 149, 0, by decide +kernel⟩,
    ⟨0, 7, sem0, bank.onCulv 0 (fun k => { k with sems := [(7, sem0)] }), by decide +kernel⟩,
    ⟨0, c1Read1, cop 0 .read .waiting, by decide +kernel⟩,
    ⟨2, opsUp 2 [cop 2 .xfer .waiting] .spacing, cop 2 .xfer .waiting, by decide +kernel⟩, by decide +kernel,
    ⟨opsUp 0 [cop 0 .read .onWire] .idle, cop 0 .read .onWire, [⟨0xABC, true⟩], ⟨0, false⟩, 2, by decide +kernel⟩⟩

/-- C2 and C3, before and after the frame went out, with and without a reply to come, idempotent or not. -/
theorem witness_SerialRows : ∀ c ∈ [1, 2], ∀ ser ∈ [SerSt.sending, .waiting], ∀ rx ∈ [0, 1], ∀ f ∈ [(true, 2), (true, 3), (false, 1)],
    let o := { cop c .xfer .onWire with rxLen := rx, idem := f.1, attempts := f.2 }
    let s := opsUp c [o] ser
    let x : COp := { o with stat := .between, fail := 6 }
    c ≠ 0 ∧ (s.culv c).ops = [] ++ o :: [] ∧ o.stat = .onWire ∧ o.kind = .xfer ∧ o.chain = 0 ∧ o.culv = c ∧ o.closed = false
      ∧ o.cancel = false ∧ o.mute = false ∧ o.req ≠ 0x59 ∧ o.fail = 0 ∧ o.frame = 0 ∧ o.reply = []
      ∧ o.tx.length ≤ kMaxFrame s c ∧ (s.entry o.id).opn = true ∧ wfStore noEntry s.mem.ledger = true
      ∧ wfStore FEp.reset s.hub.eps = true ∧ (s.culv c).ser = ser ∧ (s.entry o.id).limit ≤ s.tick.now - (s.entry o.id).openAt
      ∧ (∀ k < 3, k ≠ c → ∀ x ∈ (s.culv k).ops, x.id ≠ o.id) ∧ (s.culv c).chainNow = 0
      ∧ let s' := s.onCulv c (fun k => { k with ops := [] ++ x :: [], ser := .spacing })
        culvUsable s' c = true ∧ culvWaits s' c = false := by decide +kernel

/-- P7 is the TAND plot: PAIR_ID 77, this device the first keeper where `init` says so. -/
def tandUp (init : Bool) (st : TandSt) (f : Tand → Tand) : State :=
  (withPlot 7 [(0, 6 + 100 * 256), (9, 77 * 65536 + (if init then 3 else 2))] [] bank).onTand (fun t => f { t with st := st })

def mirror1 : MEntry := ⟨4, some 9, false, false, 0x00040700, 0⟩
/-- A READ of one culvert word with TAG 7 from the rack function. -/
def read1 : List W := [7 + 0x100, 0x10005]

/-- A frame with the LEN and the CRC of its payload. -/
def frameOf (type : Nat) (seq : BitVec 16) (payload : List W) : TLink :=
  let len := BitVec.ofNat 16 (4 * payload.length)
  ⟨⟨1, seq, 0, len⟩, payload, crc16 (linkBody type 1 seq 0 len payload)⟩

abbrev fitsAs (type : Nat) (x : TLink) : Prop := (linkSound type x && lenFits type x.payload) = true

/-- The last sequence number before the wrap has come. -/
def heardAll (t : Tand) : Tand := { t with rxAny := true, rxSeq := 0xFFFF }
def entry9 (s : State) : State := s.onEntry 9 (fun _ => { noEntry with opn := true, kind := .mirrored, owner := 7 })

theorem witness_TandemFrames :
    -- a frame of each type whose CRC, whose LEN, whose order is wrong
    (∀ c ∈ [(2, [0x00040700, 0], [5]), (3, 9 :: read1, []), (4, 9 :: read1, []), (5, [], [5]), (6, [1], []), (7, [2], [5, 5]), (8, [], [5])],
      let s := tandUp false .follower heardAll
      let x := frameOf c.1 0 c.2.1
      tandHears s = true ∧ s.tandPlot = some 7 ∧ s.tand.waiting = [] ∧ fitsAs c.1 x ∧ x.head.seq = s.tand.rxSeq + 1
      ∧ ¬fitsAs c.1 { x with crc := ~~~x.crc } ∧ ¬fitsAs c.1 (frameOf c.1 0 c.2.2)
      ∧ fitsAs c.1 (frameOf c.1 1 c.2.1) ∧ (1 : BitVec 16) ≠ s.tand.rxSeq + 1)
    -- a follower: records that open, that close, and one of a semaphore
    ∧ (let s := entry9 (tandUp false .follower (fun t => { t with mirror := [mirror1] }))
       tandHears s = true ∧ s.tand.st = .follower ∧ wfStore noEntry s.mem.ledger = true
       ∧ (let r : W × W := (0x00050700, 0)
          fitsAs 2 (frameOf 2 0 [r.1, r.2]) ∧ r.1.bits 1 0 = 0 ∧ r.1.bits 3 2 < 2
          ∧ (∀ m ∈ s.tand.mirror, recKey m.w0 ≠ recKey r.1) ∧ nextOrdinary s = some 0)
       ∧ (let r : W × W := (0x00040708, 0)
          fitsAs 2 (frameOf 2 0 [r.1, r.2]) ∧ r.1.bits 1 0 = 0 ∧ r.1.bits 3 2 = 2
          ∧ s.tand.mirror.find? (fun m => recKey m.w0 = recKey r.1) = some mirror1 ∧ (s.entry 9).opn = true)
       ∧ (let r : W × W := (0x701, 0)
          fitsAs 2 (frameOf 2 0 [r.1, r.2]) ∧ r.1.bits 1 0 = 1 ∧ r.1.bits 3 2 = 0))
    -- what goes out at once, and what a device in shutdown step 4 holds back
    ∧ (∀ b ∈ [true, false], let s := (tandUp false .follower id).onPwr (fun p =>
          { p with phase := if b then .run else .shutdown, shutStep := 4 })
        tandHears s = true ∧ s.tand.st = .follower ∧ linkSends s = b ∧ s.tand.unacked.length < 32 ∧ s.hay.injArm = false
        ∧ fitsAs 6 (frameOf 6 0 [1]) ∧ (∀ m ∈ s.tand.mirror, m.lid = none))
    ∧ (let s := tandUp false .keeper (fun t => { t with syncing := true, syncTx := 2 })
       tandHears s = true ∧ s.tand.st = .keeper ∧ s.tand.syncing = true ∧ s.hay.injArm = false ∧ fitsAs 7 (frameOf 7 0 [2])
       ∧ fitsAs 7 (frameOf 7 0 [3]) ∧ s.tand.syncTx = 2)
    -- a forwarded request: of a device that is no keeper, malformed, waiting outside RUN, and one that is taken
    ∧ (∀ st ∈ [TandSt.listen, .keeper], ∀ ph ∈ [Phase.run, .quiesce], let s := phase ph (tandUp false st id)
        tandHears s = true ∧ s.tand.st = st ∧ fitsAs 3 (frameOf 3 0 (9 :: read1)) ∧ (frameReq read1).1.isSome = true
        ∧ fitsAs 3 (frameOf 3 0 [9, 0x1D00]) ∧ (frameReq [0x1D00]).1 = none ∧ (frameReq [0x1D00]).2.isSome = true
        ∧ isSevere s 8 = false ∧ linkSends s = true ∧ (accepting s = true ↔ ph = .run) ∧ s.tand.rxWait = []
        ∧ kEnable s 0 = true ∧ s.culvPlot 0 = some 2 ∧ s.culvs.c1.sems = [] ∧ wfStore noEntry s.mem.ledger = true
        ∧ allocId s 7 (cLedgerCap (s.plot 7).wc 7) .flow = some 0
        ∧ [reqWord0 7 1 0 false false true 0, mkW [(0, 15, 0x7FFF), (16, 7, 1)]] = [0x8107, 0x17FFF])
    -- a result of no operation, and of one that is open
    ∧ ∀ l ∈ [[], [((9 : Nat), read1, (1 : Nat))]], let s := entry9 (tandUp false .follower (fun t => { t with fwd := l }))
        let x := frameOf 4 0 (9 :: read1)
        tandHears s = true ∧ fitsAs 4 x ∧ (read1.headD 0).bits 12 10 ≤ 3 ∧ (read1.headD 0).bits 19 16 = 0
        ∧ ((∀ f ∈ s.tand.fwd, f.1 ≠ 9) ↔ l = []) ∧ (s.entry 9).opn = true ∧ wfStore noEntry s.mem.ledger = true
        ∧ wfStore FEp.reset s.hub.eps = true :=
  ⟨by decide +kernel, by decide +kernel, by decide +kernel, by decide +kernel, by decide +kernel, by decide +kernel⟩

theorem witness_TandemRows :
    -- a valid BEAT of a follower and of a keeper, and the same with another PAIR_ID
    (∀ f ∈ [(1 : Byte), 2], ∀ pair ∈ [77, 78], ∀ st ∈ [TandSt.follower, .keeper],
      let s := tandUp false st id
      let w : W := BitVec.ofNat 32 (pair * 65536)
      let h : LinkHead := ⟨f, 0, 0, 8⟩
      tandHears s = true ∧ s.tandPlot = some 7 ∧ s.tand.waiting = [] ∧ s.tand.st = st ∧ s.tand.linkUp = false
      ∧ (w.bits 31 16 = (plotW (s.plot 7).wc 7 9).bits 31 16 ↔ pair = 77)
      ∧ linkValid s 1 ⟨h, [w, 5], crc16 (linkBody 1 f 0 0 8 [w, 5])⟩ = decide (pair = 77))
    ∧ (∀ st ∈ [TandSt.follower, .keeper], ∀ sent ∈ [true, false],
      let s := (tandUp false st (fun t => { t with beatSent := sent })).onPlot 7 (fun q =>
        { q with running := if sent then none else some ⟨⟨0, 0⟩, .flow, 0⟩ })
      tandHears s = true ∧ s.tandPlot = some 7 ∧ plotRuns s 7 = true ∧ s.tand.st = st
      ∧ ((s.plot 7).running = some ⟨⟨0, 0⟩, .flow, 0⟩ ↔ sent = false) ∧ s.tand.beatSent = sent ∧ s.pwr.phase ≠ .shutdown)
    ∧ (∃ (s : State) (p : Nat) (f : BitVec 16 × Nat × TFrame), tandHears s = true ∧ s.tandPlot = some p ∧ s.tand.unacked = [f]
        ∧ f.2.1 + 4 ≤ s.tick.now ∧ s.hay.injArm = false ∧ linkSends s = true)
    ∧ (∃ (s : State) (p : Nat), tandHears s = true ∧ s.tandPlot = some p ∧ linkSends s = false ∧ s.tand.unacked ≠ [])
    ∧ (∃ (s : State) (p : Nat), tandHears s = true ∧ s.tandPlot = some p ∧ s.tand.st ≠ .keeper ∧ s.tand.unacked = [])
    ∧ (∀ init ∈ [true, false], let s := tandUp init .keeper id; tandHears s = true ∧ s.tandPlot = some 7 ∧ s.tand.st = .keeper
        ∧ (plotW (s.plot 7).wc 7 9).bit 0 = init)
    ∧ (∃ (s : State) (p : Nat), tandHears s = true ∧ s.tandPlot = some p ∧ s.tand.linkUp = false ∧ 4 ≤ s.tand.beatRun
        ∧ s.tand.st ≠ .keeper)
    ∧ (∀ st ∈ [TandSt.follower, .keeper], let s := tandUp false st (fun t =>
          { t with linkUp := true, linkSilent := 8, fwd := [(9, read1, 1)] })
        tandHears s = true ∧ s.tandPlot = some 7 ∧ s.tand.linkUp = true ∧ 8 ≤ s.tand.linkSilent ∧ s.tand.st = st
        ∧ ∀ f ∈ s.tand.fwd, ∀ g ∈ s.tand.toSend, g.1 ≠ f.1)
    ∧ (∃ (s : State) (p : Nat), tandHears s = true ∧ s.tandPlot = some p ∧ s.tand.st = .listen
        ∧ ((plotW (s.plot p).wc p 9).bit 0 = false ∨ s.tand.heardKeeper = true))
    ∧ (∀ at_ ∈ [960, 961], let s := tandUp true .listen (fun t => { t with startAt := at_ })
        tandHears s = true ∧ s.tandPlot = some 7 ∧ s.tand.st = .listen ∧ (plotW (s.plot 7).wc 7 9).bit 0 = true
          ∧ s.tand.heardKeeper = false ∧ s.tand.linkUp = false ∧ (s.tand.startAt + 40 ≤ s.tick.now ↔ at_ = 960))
    ∧ (∃ (s : State) (p : Nat), tandHears s = true ∧ s.tandPlot = some p ∧ s.tand.st = .follower ∧ s.tand.linkUp = false
        ∧ 32 ≤ s.tand.hbSilent ∧ s.tand.toSend = [] ∧ s.hay.injArm = false ∧ wfStore noEntry s.mem.ledger = true
        ∧ s.tand.mirror = [mirror1] ∧ s.tand.msems = [(2, { sem0 with partner := true })])
    ∧ (∃ (s : State) (p : Nat), tandHears s = true ∧ s.tandPlot = some p ∧ s.tand.st = .follower ∧ s.tand.handoverRx = true
        ∧ s.tand.toSend = [] ∧ s.hay.injArm = false ∧ wfStore noEntry s.mem.ledger = true)
    ∧ (∃ (s : State) (p : Nat), tandHears s = true ∧ s.tandPlot = some p ∧ s.tand.st = .keeper ∧ 8 ≤ s.tand.beatMiss
        ∧ wfStore noEntry s.mem.ledger = true)
    ∧ ∃ (s : State) (p : Nat), tandHears s = true ∧ s.tandPlot = some p ∧ s.tand.st = .fenced ∧ plotRuns s p = true :=
  ⟨by decide +kernel, by decide +kernel,
    ⟨tandUp false .keeper (fun t => { t with unacked := [(0, 996, .syncBegin)] }), 7, (0, 996, .syncBegin), by decide +kernel⟩,
    ⟨(tandUp false .follower (fun t => { t with unacked := [(0, 996, .syncBegin)] })).onPwr (fun p =>
      { p with phase := .shutdown, shutStep := 4 }), 7, by decide +kernel⟩,
    ⟨tandUp false .fenced id, 7, by decide +kernel⟩,
    by decide +kernel, ⟨tandUp false .follower (fun t => { t with beatRun := 4 }), 7, by decide +kernel⟩, by decide +kernel,
    ⟨tandUp false .listen id, 7, by decide +kernel⟩, by decide +kernel,
    ⟨(tandUp false .follower (fun t => { t with
        hbSilent := 32, mirror := [mirror1], msems := [(2, { sem0 with partner := true })] })).onEntry 9 (fun _ => { noEntry with
          opn := true, kind := .mirrored, owner := 7 }), 7, by decide +kernel⟩,
    ⟨tandUp false .follower (fun t => { t with handoverRx := true }), 7, by decide +kernel⟩,
    ⟨tandUp false .keeper (fun t => { t with beatMiss := 8 }), 7, by decide +kernel⟩, ⟨tandUp false .fenced id, 7, by decide +kernel⟩⟩

/-! ### Ports and Type-C -/

theorem witness_PortCommands :
    (∃ (path : Path) (s : State), mayAccess path s = true ∧ (s.win path).wbuf = none ∧ (s.port 3).classifying = false
        ∧ ¬((s.port 3).latch = .safe ∧ (s.port 3).safe = true))
    ∧ (∃ (path : Path) (s : State), mayAccess path s = true ∧ (s.win path).wbuf = none ∧ (s.port 3).latch = .safe
        ∧ (s.port 3).safe = true)
    ∧ (∃ (path : Path) (s : State), mayAccess path s = true ∧ (s.win path).wbuf = none ∧ pHvAllow s 12 = true
        ∧ (s.port 12).st = .on ∧ (s.tc 0).st = .attached)
    ∧ (∃ (path : Path) (s : State), mayAccess path s = true ∧ (s.win path).wbuf = none ∧ (s.port 12).st ≠ .on)
    ∧ ∀ path ∈ [Path.tally, .usb], let s := bank.onWin path (fun w => { w with wbuf := some (0, 5) })
        mayAccess path s = true ∧ (s.win path).wbuf.isSome = true :=
  let hv : State := withPlot 0 [(0, 3), (8, 0xFFFF)] [(0x20000 + 256 * 12, 1 + 4)] bank
  ⟨⟨.usb, bank, by decide +kernel⟩, ⟨.usb, bank.onPort 3 (fun p => { p with latch := .safe, safe := true }), by decide +kernel⟩,
    ⟨.tally, (hv.onPort 12 (fun p => { p with st := .on })).onTc 0 (fun q => { q with st := .attached }), by decide +kernel⟩,
    ⟨.usb, bank, by decide +kernel⟩, by decide +kernel⟩

def portUp (f : PPort → PPort) : State := bank.onPort 12 f
/-- A set of DP1 for tick 2 or 3 waits in sluice A of P0, and DP1 for its sample pair of that tick. -/
def adcUp (f : PPort → PPort) (even : Bool) : State :=
  let adc (d : W) (pos : Nat) : SWord := { word1 with data := d, pos := pos, peer := 0x58, vb := 1 }
  (onS 0 { Sluice.empty with pkts := [⟨.flow, [adc (if even then 2 else 3) 0, adc 4010 1, adc 40 2]⟩] }
    (withPlot 0 [(0, 3), (8, 0x1)] [(0x20001, 1800 + 5000 * 65536), (0x20005, 50 * 65536), (0x20007, 4000 + 100 * 65536)] up)).onPort 0
      (fun p => { f p with marks := [(if even then 2 else 3, 0, 0)] })
def set1 (even bad : Bool) : List (BitVec 12) × Bool := ([if even then 2 else 3, 4010, 40], bad)

theorem witness_PortPowerAndSamples :
    (∀ v ∈ [PState.off, .ramp, .on, .discharge], ∀ reqs ∈ [[false], [true], []], ∀ force ∈ [true, false],
        let s := portUp (fun p => { p with st := v, tcReqs := reqs, forceOff := force, pendOn := true })
        s.ports.length = 16 ∧ s.hub.ports.length = 17 ∧ wardenRuns s 12 = true ∧ (s.port 12).st = v
          ∧ ((s.port 12).reqs ++ (s.port 12).tcReqs).contains false = decide (reqs = [false])
          ∧ (((s.port 12).reqs.contains true && actsOn s 12) || (s.port 12).tcReqs.contains true) = decide (reqs = [true])
          ∧ refusesOn s 12 = force ∧ (s.port 12).pendOn = true)
    ∧ (∀ c ∈ [(0, 100), (0, 99), (1, 100)], let s := portUp (fun p => { p with
          st := .ramp, setAt := 1000, since := 993, v := { Chan.reset with reason := c.1, code := c.2 } })
        (s.port 12).since + pSsTicks s 12 ≤ (s.port 12).setAt + 1 ∧ pPgTh s 12 = 100)
    ∧ (∃ s : State, wardenRuns s 12 = true ∧ (s.port 12).st = .discharge ∧ 2 ≤ (s.port 12).lowRun)
    ∧ (∃ s : State, wardenRuns s 12 = true ∧ (s.port 12).st = .discharge ∧ (s.port 12).lowRun < 2 ∧ (s.port 12).v.reason ≠ 0
        ∧ (s.port 12).since + pDischTo s 12 ≤ s.tick.now ∧ (s.port 12).slowRaised = false)
    ∧ (∃ s : State, wardenRuns s 12 = true ∧ (s.port 12).st = .discharge ∧ (s.port 12).lowRun < 2 ∧ (s.port 12).v.reason = 0
        ∧ (s.port 12).slowRaised = true)
    ∧ (∃ s : State, wardenRuns s 12 = true ∧ (s.port 12).st = .on ∧ pIlimTicks s 12 ≤ (s.port 12).ocRun)
    ∧ (∃ (s : State) (a b d : Nat), wardenRuns s 12 = true ∧ (s.port 12).st = .on ∧ (s.port 12).v.recent = [a, b]
        ∧ (s.port 12).railBusy = some (true, d) ∧ (s.port 12).hvSel = true ∧ s.tick.now ≤ d ∧ 2 * pPgHv s 12 ≤ a + b)
    ∧ (∃ (s : State) (a b d : Nat), wardenRuns s 12 = true ∧ (s.port 12).st = .on ∧ (s.port 12).v.recent = [a, b]
        ∧ (s.port 12).railBusy = some (false, d) ∧ (s.port 12).hvSel = false ∧ d ≤ s.tick.now)
    ∧ (∃ (s : State) (c : Comparator), s.ports.length = 16 ∧ (s.port 12).safe = false
        ∧ ((s.port 12).st = .on ∨ (s.port 12).st = .ramp ∧ c ≠ .reverse) ∧ s.pwr.phase = .rest ∧ s.pwr.wake = false
        ∧ (s.hubPort 12).st ≠ .poweredOff ∧ (∀ x ∈ s.hub.splits, x.port ≠ 12))
    ∧ (∃ s : State, s.ports.length = 16 ∧ s.hub.ports.length = 17 ∧ plotRuns s 0 = true ∧ s.role 0 = rWARD ∧ popSet 0 s = none)
    -- a set of poisoned words, and one whose port waits for another tick
    ∧ (∀ m ∈ [2, 3], let s := ((adcUp id true).onPort 0 (fun p => { p with marks := [(m, 0, 0)] })).onSluice 0 (fun q =>
          { q with pkts := q.pkts.map (fun k => { k with words := k.words.map (fun w => { w with poison := true }) }) })
        s.ports.length = 16 ∧ s.hub.ports.length = 17 ∧ plotRuns s 0 = true ∧ s.role 0 = rWARD
        ∧ (popSet 0 s).map (fun x => (x.1, x.2.1)) = some (set1 true true) ∧ (maskPorts s 0)[0]? = some 0 ∧ 1 ∉ maskPorts s 0
        ∧ ((s.port 0).marks.any (fun x => x.1 = (2 : BitVec 12).toNat) = true ↔ m = 2))
    ∧ (∃ s : State, plotRuns s 0 = true ∧ s.role 0 = rWARD
        ∧ (popSet 0 s).map (fun x => (x.1, x.2.1)) = some (set1 false false) ∧ maskPorts s 0 = [0]
        ∧ (s.port 0).marks = [(3, 0, 0)] ∧ (s.port 0).v.recent = [90] ∧ (s.port 0).i.recent = [50] ∧ (s.port 0).v.pair = none ∧ (s.port 0).i.pair = none
        ∧ (s.port 0).vOpen = false ∧ (s.port 0).iOpen = false)
    ∧ (∃ s : State, plotRuns s 0 = true ∧ s.role 0 = rWARD ∧ (popSet 0 s).map (fun x => (x.1, x.2.1)) = some (set1 true false)
        ∧ maskPorts s 0 = [0] ∧ (s.port 0).marks = [(2, 0, 0)] ∧ (s.port 0).v.pair = some (90, false)
        ∧ (s.port 0).i.pair = none ∧ (s.port 0).vOpen = false ∧ (s.port 0).classifying = false ∧ (s.port 0).st = .off
        ∧ pOpenHi s 0 ≤ 4010 ∧ 90 ≤ pOpenLo s 0)
    ∧ (∃ (s : State) (ws : List (BitVec 12)), (0, ws) ∈ s.adc.sets ∧ s.role 0 = rWARD ∧ maskPorts s 0 = [0])
    ∧ (∃ s : State, wardenRuns s 12 = true ∧ (s.port 12).classifying = true ∧ postOpen s 12 (s.port 12).post = true)
    ∧ (∃ s : State, wardenRuns s 12 = true ∧ (s.port 12).classifying = true ∧ postOpen s 12 (s.port 12).post = false
        ∧ 3 ≤ (s.port 12).post.length)
    ∧ ∃ s : State, wardenRuns s 12 = true ∧ (s.port 12).classifying = true ∧ postOpen s 12 (s.port 12).post = false
        ∧ (s.port 12).post.length < 3 :=
  ⟨by decide +kernel, by decide +kernel, ⟨portUp (fun p => { p with st := .discharge, lowRun := 2 }), by decide +kernel⟩,
    ⟨portUp (fun p => { p with st := .discharge, since := 936, v := { Chan.reset with reason := 1 } }), by decide +kernel⟩,
    ⟨portUp (fun p => { p with st := .discharge, slowRaised := true }), by decide +kernel⟩,
    ⟨portUp (fun p => { p with st := .on, ocRun := 2 }), by decide +kernel⟩,
    ⟨portUp (fun p => { p with st := .on, hvSel := true, railBusy := some (true, 1000), v := { Chan.reset with recent := [2000, 2000] } }),
      2000, 2000, 1000, by decide +kernel⟩,
    ⟨portUp (fun p => { p with st := .on, railBusy := some (false, 1000), v := { Chan.reset with recent := [2000, 2000] } }),
      2000, 2000, 1000, by decide +kernel⟩,
    ⟨phase .rest ((portUp (fun p => { p with st := .ramp })).onHubPort 12 (fun h => { h with st := .enabled })), .overCurrent, by decide +kernel⟩,
    ⟨bank, by decide +kernel⟩,
    by decide +kernel,
    ⟨adcUp (fun p => { p with v := { Chan.reset with recent := [90] }, i := { Chan.reset with recent := [50] } }) false, by decide +kernel⟩,
    ⟨adcUp (fun p => { p with v := { Chan.reset with pair := some (90, false) } }) true, by decide +kernel⟩,
    ⟨(adcUp id true).onAdc (fun a => { a with sets := [(0, [1, 2, 3])] }), [1, 2, 3], by decide +kernel⟩,
    ⟨portUp (fun p => { p with classifying := true, latch := .ovp, post := [(4095, true), (0, false)] }), by decide +kernel⟩,
    ⟨portUp (fun p => { p with classifying := true, latch := .ovp, post := [(900, true), (900, false), (900, true)] }), by decide +kernel⟩,
    ⟨portUp (fun p => { p with classifying := true, latch := .ovp, post := [(900, true), (900, false)] }), by decide +kernel⟩⟩

def tcUp (f : TcPort → TcPort) : State := bank.onTc 0 (fun q => f { q with st := .attached, txDesc := 0x200 })

def why (q : TcPort) : Nat :=
  let sop := q.txDesc.bits 1 0
  let len := q.txDesc.bits 12 8
  if q.phy ≠ .idle then 1 else if q.st ≠ .attached then 2 else if (sop = 1 ∨ sop = 2) ∧ q.vconn = false then 3
  else if len < 2 ∨ 30 < len ∨ sop = 3 then 4 else if q.hrSend = true then 5 else 0

def okMay (s : State) (q : TcPort) : Bool :=
  q.st = .attached && tcVconnAllow s 0 && s.pwr.vconnIn && !q.noGate && !(s.port 12).safe

/-- The USB path writes, Type-C on: every reason a SEND is refused for, and each state of the transmitter. -/
theorem witness_PdCommands :
    (∃ s : State, mayAccess .usb s = true ∧ s.uWin.wbuf = none ∧ s.tcs.length = 4 ∧ tcEn s 1 = false)
    ∧ (∀ x ∈ [(tcUp id, 0), (tcUp (fun q => { q with phy := .pending }), 1), (bank, 2),
          (tcUp (fun q => { q with txDesc := 0x202 }), 3), (tcUp (fun q => { q with txDesc := 0x1F00 }), 4),
          (tcUp (fun q => { q with txDesc := 0x203 }), 4), (tcUp (fun q => { q with hrSend := true }), 5)],
        mayAccess .usb x.1 = true ∧ x.1.uWin.wbuf = none ∧ x.1.tcs.length = 4 ∧ tcEn x.1 0 = true ∧ why (x.1.tc 0) = x.2)
    ∧ (∀ v ∈ [true, false], ∀ f ∈ [PhySt.idle, .amsWait, .pending, .gcrcWait],
        let s := tcUp (fun q => { q with vconn := v, phy := f, sinkNg := v, rxCount := if v then 8 else 0 })
        tcEn s 0 = true ∧ (s.tc 0).vconn = v ∧ (s.tc 0).phy = f ∧ (s.tc 0).ep4 = [] ∧ (s.tc 0).sinkNg = v
          ∧ ((s.tc 0).rxCount = 0 ↔ v = false) ∧ okMay s (s.tc 0) = true)
    ∧ okMay (bank.onPwr (fun p => { p with vconnIn := false })) (tcUp id |>.tc 0) = false
    ∧ (bank.tc 0).st = .disabled ∧ (tcUp id |>.tc 0).st ≠ .ccFault
    ∧ (∃ (k : Fin 12) (s : State), s.tcs.length = 4 ∧ tcRxEp4 s 0 = true ∧ k ≠ 2 ∧ (s.tc 0).evt.getLsbD k.val = false
        ∧ wfStore FEp.reset s.hub.eps = true)
    ∧ (∃ s : State, s.tcs.length = 4 ∧ wfStore FEp.reset s.hub.eps = true ∧ usbUp s = true ∧ (s.hubPort 16).st = .enabled
        ∧ (s.ep 4).halted = true)
    ∧ (∃ s : State, s.tcs.length = 4 ∧ wfStore FEp.reset s.hub.eps = true ∧ usbUp s = true ∧ (s.hubPort 16).st = .enabled
        ∧ (s.ep 4).halted = false ∧ s.funcPlot 4 = none)
    ∧ (∃ (s : State) (p : Nat), s.tcs.length = 4 ∧ wfStore FEp.reset s.hub.eps = true ∧ usbUp s = true ∧ (s.hubPort 16).st = .enabled
        ∧ (s.ep 4).halted = false ∧ s.funcPlot 4 = some p ∧ claimWaits s (2 * p) 0x40 = true)
    ∧ (∃ s : State, s.tcs.length = 4 ∧ wfStore FEp.reset s.hub.eps = true ∧ ¬(usbUp s = true ∧ (s.hubPort 16).st = .enabled))
    -- endpoint 4 serves: each state of the transmitter, Type-C on and off, VCONN closed and open
    ∧ (∀ on ∈ [true, false], ∀ f ∈ [PhySt.idle, .amsWait, .pending, .gcrcWait], ∀ v ∈ [true, false],
        let s := (if on then tcUp else fun g => bank.onTc 1 g) (fun q => { q with vconn := v, phy := f })
        let i := if on then 0 else 1
        s.tcs.length = 4 ∧ wfStore FEp.reset s.hub.eps = true ∧ usbUp s = true ∧ (s.hubPort 16).st = .enabled
        ∧ (s.ep 4).halted = false ∧ s.funcPlot 4 = some 5 ∧ epServes s 4 = true ∧ claimWaits s (2 * 5) 0x40 = false
        ∧ tcEn s i = on ∧ (s.tc i).phy = f ∧ (s.tc i).vconn = v ∧ ((s.tc i).st = .attached ↔ on = true) ∧ (s.tc i).hrSend = false)
    ∧ (List.replicate 30 (1 : Byte)).length = 30 ∧ (List.replicate 2 (1 : Byte)).length = 2 :=
  ⟨⟨bank, by decide +kernel⟩, by decide +kernel, by decide +kernel, by decide +kernel, by decide +kernel, by decide +kernel,
    ⟨3, withPlot 0 [(0, 3), (8, 0xFFFF)] [(0x20009 + 256 * 12, 0x81)] bank, by decide +kernel⟩,
    ⟨bank.onEp 4 (fun q => { q with halted := true }), by decide +kernel⟩, ⟨up, by decide +kernel⟩,
    ⟨onS 10 { Sluice.empty with opn := some open1, claims := [⟨.flow, 0x40, 16⟩] } bank, 5, by decide +kernel⟩,
    ⟨phase .held bank, by decide +kernel⟩, by decide +kernel, rfl, rfl⟩

/-- The port of DP13 with received messages on endpoint 4. -/
def tcEp4 (f : TcPort → TcPort) : State := withPlot 0 [(0, 3), (8, 0xFFFF)] [(0x20009 + 256 * 12, 0x81)] (tcUp f)

theorem witness_TypeCStatesAndPd :
    (∀ ep4 ∈ [true, false], ∀ v ∈ [TcSt.unattached, .attachWait, .attached, .audio, .debug, .errorRecovery, .ccFault],
      ∀ cnt ∈ [63, 64, 119, 120, 1199, 1200], ∀ since ∈ [760, 761],
        let s := (if ep4 then tcEp4 else tcUp) (fun q => q)
        let s := s.onTc 0 (fun q => { q with st := v, cnt := cnt, since := since, ep4 := [(4, 7)] })
        s.tcs.length = 4 ∧ wfStore FEp.reset s.hub.eps = true ∧ tcRxEp4 s 0 = ep4 ∧ (s.tc 0).st = v ∧ (s.tc 0).cnt = cnt
          ∧ ((s.tc 0).since + 240 ≤ s.tick.now ↔ since = 760) ∧ s.ports.length = 16 ∧ (s.port 12).st = .off
          ∧ tcPattern (s.tc 0) = .none)
    ∧ (∀ pat ∈ [Pattern.sink true, .sink false, .audio, .debug, .none], ∃ q : TcPort, q.st = .attachWait ∧ q.cnt = 1200 ∧ q.pat = pat)
    ∧ (∃ s : State, (s.tc 0).st = .attachWait ∧ (s.tc 0).pat = .sink true ∧ (s.port 12).st ≠ .off)
    ∧ (∃ q : TcPort, q.st = .unattached ∧ tcPattern q ≠ .none) ∧ (bank.tc 0).st = .disabled
    -- the transmitter: each state, a SEND cancelled or not, at each try, the PD block held in reset or not
    ∧ (∀ f ∈ [PhySt.idle, .amsWait, .pending, .gcrcWait], ∀ c ∈ [true, false], ∀ n ∈ [2, 3], ∀ h ∈ [0, 8],
        let s := (tcUp (fun q => { q with phy := f, cancelled := c, txTries := n, vconn := c, txSop := n - 2 })).onPwr (fun p =>
          { p with blkHeld := h })
        s.tcs.length = 4 ∧ wfStore FEp.reset s.hub.eps = true ∧ (s.tc 0).phy = f ∧ (s.tc 0).cancelled = c ∧ (s.tc 0).txTries = n
          ∧ (s.tc 0).st = .attached ∧ (s.tc 0).hrSend = false ∧ (s.tc 0).crSend = false ∧ (s.tc 0).vconn = c
          ∧ (s.pwr.blkHeld.getLsbD 3 = true ↔ h = 8) ∧ (s.tc 0).txSop < (s.tc 0).ids.length
          ∧ ((0 : BitVec 2).toNat = (s.tc 0).txSop ↔ n = 2) ∧ (0 : BitVec 3).toNat = (s.tc 0).txId)
    ∧ (∃ s : State, (s.tc 0).hrSend = true ∧ (s.tc 0).crSend = true ∧ (s.tc 0).bist = true ∧ (s.tc 0).vconn = true
        ∧ (s.tc 0).st = .attached)
    ∧ (∀ at_ ∈ [760, 761], let s := tcUp (fun q => { q with hrBusy := true, hrAt := some at_ })
        (s.tc 0).hrBusy = true ∧ wardenRuns s 12 = true ∧ s.ports.length = 16 ∧ (s.tc 0).hrRemoved = false
        ∧ (s.tc 0).hrAt = some at_ ∧ (at_ + 240 ≤ s.tick.now ↔ at_ = 760))
    ∧ (∀ at_ ∈ [1400, 1401], let s := { tcUp (fun q => { q with hrBusy := true, hrRemoved := true, offAt := some at_, want := true }) with
          tick := { bank.tick with now := 7000 } }
        (s.tc 0).hrBusy = true ∧ wardenRuns s 12 = true ∧ s.ports.length = 16
        ∧ (s.tc 0).hrRemoved = true ∧ (s.tc 0).offAt = some at_ ∧ (s.port 12).st = .off ∧ (s.tc 0).noGate = false
        ∧ (max (s.port 12).since at_ + 5600 ≤ s.tick.now ↔ at_ = 1400))
    -- messages: by slot, full, seen and heard, SOP' with and without VCONN
    ∧ (∀ x ∈ [(0, PhySt.idle, none), (7, .pending, none), (7, .idle, some 1), (8, .idle, none)], ∀ ph ∈ [Phase.run, .rest],
        let s := phase ph (tcUp (fun q => { q with rxCount := x.1, phy := x.2.1, rxIds := [x.2.2, none, none] }))
        let bytes : List Byte := [0x61, 0x12]
        s.tcs.length = 4 ∧ wfStore FEp.reset s.hub.eps = true ∧ (s.tc 0).st = .attached ∧ s.pwr.blkHeld.getLsbD 3 = false
          ∧ 2 ≤ bytes.length ∧ bytes.length ≤ 30 ∧ isGoodCrc bytes = false ∧ isSoftReset bytes = false ∧ tcRxEp4 s 0 = false
          ∧ (s.tc 0).rxIds.length = 3 ∧ (s.tc 0).rxSlots.length = 8 ∧ (s.tc 0).rxCount = x.1 ∧ (s.tc 0).phy = x.2.1
          ∧ ((s.tc 0).rxIds.getD 0 none = some (pdMsgId bytes) ↔ x.2.2 = some 1))
    ∧ (tcSop1En bank 0 = false ∧ isGoodCrc [0x41, 0x12] = false ∧ isGoodCrc [0x41, 0x02] = true)
    ∧ (∀ n ∈ [0, 2], let s := (tcEp4 id).onEp 20 (fun q => { q with pkts := List.replicate n [0] })
        let bytes : List Byte := List.replicate 30 0x61
        s.tcs.length = 4 ∧ wfStore FEp.reset s.hub.eps = true ∧ (s.tc 0).st = .attached ∧ bytes.length = 30
        ∧ isGoodCrc bytes = false ∧ isSoftReset bytes = false ∧ tcRxEp4 s 0 = true
        ∧ (epRoom s 4 (List.replicate (2 + (bytes.length + 3) / 4) 0) = true ↔ n = 0) ∧ (s.tc 0).phy = .idle
        ∧ (s.tc 0).rxIds.getD 0 none ≠ some (pdMsgId bytes) ∧ (s.tc 0).rxIds.length = 3) :=
  ⟨by decide +kernel, fun pat _ => ⟨{ TcPort.reset with st := .attachWait, cnt := 1200, pat := pat }, rfl, rfl, rfl⟩,
    ⟨portUp (fun p => { p with st := .discharge }) |>.onTc 0 (fun q => { q with st := .attachWait, pat := .sink true }), by decide +kernel⟩,
    ⟨{ TcPort.reset with st := .unattached, cc1 := .rd }, by decide +kernel⟩, by decide +kernel, by decide +kernel,
    ⟨tcUp (fun q => { q with hrSend := true, crSend := true, bist := true, vconn := true }), by decide +kernel⟩,
    by decide +kernel, by decide +kernel, by decide +kernel, by decide +kernel, by decide +kernel⟩

/-! ### Values of the spec's worked examples -/

/-- A field of the next state, where there is one. -/
def look {α : Type} (f : State → α) (r : Host.Outcome State Fault Refusal) : Option α :=
  match r with
  | .next s => some (f s)
  | _ => none

def crcOn : State := up.onTally (fun t => { t with lcrc := true, last := .ok })

/-- Chapter 4, frames A, C, D and E. -/
theorem test_frame_a : look (fun s => (s.tally.tdo, s.tally.last)) (exec (.tallyReadFrame 0x00 0 48) up)
    = some (⟨0x57, 0x52596416, 0⟩, .ok) := by decide +kernel
theorem test_frame_c : look (fun s => s.tally.tdo) (exec (.tallyReadFrame 0x00 0x00 56) crcOn)
    = some ⟨0x50, 0x52596416, 0x0D⟩ := by decide +kernel
theorem test_frame_d : look (fun s => (s.hay.alertEn, s.tally.last)) (exec (.tallyWriteFrame 0xA0 3 0xFA 48) crcOn)
    = some (3, .ok) := by decide +kernel
theorem test_frame_e : look (fun s => s.tally.tdo) (exec (.tallyReadFrame 0x03 0x09 56) crcOn)
    = some ⟨0x50, 0, 0xA6⟩ := by decide +kernel

/-- Chapter 3: RST_CAUSE after the supply went in shutdown step 4 and came back. -/
theorem test_rst_cause :
    look (fun s => directValue s .tally 0x12) (exec (.powerOnRelease false) (phase .powerOn (up.onStby (fun b =>
      { b with brownout := true, last := 2, brownRail := 2, shutSteps := 7, incomplete := true })))) = some (some 0x01072103) := by
  decide +kernel

/-- Chapter 6: GetHubDescriptor with PWR_ON_GOOD 3. -/
theorem test_hub_descriptor :
    look (fun s => s.usb.resp) (exec .getHubDescriptor (up.onNvm (fun m => { m with opt := [(16, 0x00030000), (17, 4)] })))
      = some ⟨.ack, [], [0x0D, 0x29, 0x11, 0x0D, 0x00, 0x03, 0x00, 0x00, 0x00, 0x02, 0xFF, 0xFF, 0xFF]⟩ := by decide +kernel

/-- Chapter 7: the fourth culvert word of the packing sluice 62 completes its packet. -/
theorem test_packed_packet :
    look (fun s => (s.sluice 62).pkts.map (fun k => k.words.map (fun w => (w.data, tagOf w))))
      (exec (.sluiceWrite 62 0xABC 0 false true)
        (onS 62 { Sluice.empty with opn := some ⟨⟨.flow, 0x51, 2⟩, [], 0, [(0x123, false, false), (0x456, false, false), (0x789, false, false)]⟩ }
          (withPlot 31 [(0, 2), (8, 0x10000), (12, 0x0204)] [] up)))
      = some [[(0x89456123, 0xA30D), (0x0000ABC7, 0xA206)]] := by decide +kernel

/-- Chapter 8: the serial request's words, and its result in two attempts. -/
theorem test_serial_request :
    ((parseReqs 9 [0x00002A2A, 0x00060421, 0x02001003]).1.map (fun r => (r.tag, r.culv, r.op, r.idem, r.data.length)))
      = [(0x2A, 2, 2, true, 1)] := by decide +kernel
theorem test_serial_result :
    resultHead 0x2A 2 2 0 0 2 false (some 0x123) 6 ++ packBytes [0x21, 0x03, 0x04, 0x00, 0x7B, 0x00]
      = [0x02000A2A, 0x00060123, 0x00040321, 0x0000007B] := by decide +kernel

/-- Chapter 10: the packet of the tick with samples 1,000 to 1,002, and the slot words. -/
theorem test_cadence_packet :
    streamPacket 0 false [⟨0x0012D688, 1000, 0x00028000, false, false, false, 0, [⟨0x123, .valid⟩, ⟨0x456, .valid⟩, ⟨0x789, .valid⟩], true, true⟩]
      0x00028000 1000 0x0012D688
      = [0x00010300, 0x00028000, 0x000003E8, 0x0012D688, 0, 0, 0x89456123, 0x00000007] := by decide +kernel
theorem test_slot_words :
    (cSlots (words [(3, 3 * 65536), (0x10000, 0x09602580), (0x10001, 0x5C2032C8), (0x10002, 0xB5840A28)]) 0).map
      (fun x => (x.start, x.len, x.cls)) = [(4800, 9600, 0), (14400, 13000, 1), (27400, 2600, 2)] := by decide +kernel

/-- Chapter 11: 900 mA from the codes 1,712 and 1,702, and the words of DP5 in OFF with its open wire. -/
def dp5 (f : PPort → PPort) : State :=
  let adc (d : W) (pos : Nat) : SWord := { word1 with data := d, pos := pos, peer := 0x58, vb := 1 }
  (onS 80 { Sluice.empty with pkts := [⟨.flow, [adc 2 0, adc 3413 1, adc 1702 2]⟩] }
    (withPlot 40 [(0, 3), (8, 0x10)] [(0x20401, 6000 + 3600 * 65536), (0x20402, 683), (0x20407, 3900 + 195 * 65536)] up)).onPort 4 f
theorem test_pair_mean :
    look (fun s => (s.port 4).iMa) (exec (.wardenSampleSet 40) (dp5 (fun p => { p with
      marks := [(2, 0, 0)], v := { Chan.reset with recent := [3413] }, i := { Chan.reset with recent := [1712] } }))) = some 900 := by decide +kernel
theorem test_off_threshold : d08 (dp5 id) 4 = 546 := by decide +kernel
theorem test_open_wire_word :
    portWord (dp5 (fun p => { p with latch := .openI, iOpen := true, since := 1000, evt := 3 })) 4 65 = 0x00002500 := by decide +kernel

/-- Chapter 12: Accept's header as written and as sent, with MessageID 1. -/
theorem test_pd_header :
    look (fun s => ((s.tc 0).txId, (s.tc 0).phy)) (exec (.pdTxStart 0) (tcUp (fun q => { q with
      phy := .pending, txDesc := 0x200, txBytes := [0x01A3, 0, 0, 0, 0, 0, 0, 0], ids := [1, 0, 0] }))) = some (1, .gcrcWait) := by
  decide +kernel

/-- Chapter 13: the fourth over-current event of DP7 and what the driver reads at tick 17,205. -/
def rack13 : State :=
  ((((up.onCfg (fun c => { c with hwTable := words [(0x5011C, 0x1A4)] })).onNvm (fun m => { m with opt := [(163, 0xD3410000)] })).onTick
    (fun t => { t with count := 17204, now := 17204 })).onHay (fun h => { h with
      mode := true, alertEn := 2, raised := [⟨0x47, 0x29, 7⟩], queue := [0x47A40007, 0x47A40007, 0x47A40007]
      srcs := [(0x47, { noSrc with stamps := [14804, 12404, 10004] })] }))
theorem test_severe_messages :
    look (fun s => s.hay.queue) (exec .eventLatch rack13)
      = some [0x47A40007, 0x47A40007, 0x47A40007, 0x47A40007, 0x47F40069] := by decide +kernel
/-- The example prints HW_STAT as 0x00050106; by R206 bit 0 is MODE and reads 1 here, so that bit is masked. -/
theorem test_severe_words :
    look (fun s =>
      let s' := s.onTick (fun t => { t with now := 17205, count := 17205 })
      ((directValue s' .tally 0x19).map (fun w => w &&& ~~~1), directValue s' .tally 0x1B, severityWord s' 0x47))
      (exec .eventLatch rack13) = some (some 0x00050106, some 0x00000301, 0x011FFF09) := by decide +kernel

/-- Chapter 14: the forced test of F17 under PERIOD 16, through FALLOW_STAT. -/
def forced17 : State :=
  (up.onField (fun x => { x with
    map := (x.map.set 9 ⟨17, .shadowing⟩).set 63 ⟨9, .carrying⟩, fallow := some 9, lastTested := 9, lastPass := true
    testWait := false, shadow := some ⟨.forced, 17, 17, 998, false, []⟩ })).onPlot 17 (fun q => { q with shadowed := true })
theorem test_fallow_shadowing : directValue forced17 .tally 0x29 = some 0x00004949 := by decide +kernel
theorem test_fallow_swapped :
    look (fun s => directValue s .tally 0x29) (exec (.shadowCompare true) forced17) = some (some 0x00014911) := by decide +kernel
theorem test_fallow_failed :
    look (fun s => (directValue s .tally 0x29, fallowWord s 0, s.hay.raised.map msgWord))
      (exec (.furrowFail .phase2) (up.onField (fun x => { x with
        map := (x.map.set 9 ⟨17, .carrying⟩).set 17 ⟨63, .fallow⟩, fallow := some 17, lastTested := 9, lastPass := true
        swapDone := true, testWait := false, testAt := some 988 })))
      = some (some 0x510311BF, 0x00020000, [0x65240011]) := by decide +kernel

/-- Chapter 1: the host returns. The SOF at cycle 18,240 stretches the tick, the next ends it. -/
theorem test_stretch :
    look (fun s => (s.tick.pendSt, s.tick.stretch)) (exec (.sofCapture 18240 0 0) (up.onTick (fun t => { t with st := .holdover })))
      = some (some .acquire, some ⟨18240, none, false⟩) := by decide +kernel
theorem test_stretch_end :
    look (fun s => s.tick.stretch) (exec (.sofCapture 48240 0 0) (up.onTick (fun t => { t with
      st := .holdover, pendSt := some .acquire, stretch := some ⟨18240, none, false⟩ }))) = some (some ⟨18240, some 48240, true⟩) := by
  decide +kernel

/-- A step runs the command in front; an empty queue idles. -/
theorem test_queue : look (fun s => (s.pending.length, s.tap.ir)) (step { up with pending := [.bypass, .idcode] })
    = some (1, .bypass) := by decide +kernel

/-- R484, R497: a trip of DP1 while it is ON. -/
theorem test_trip :
    look (fun s => ((s.port 0).st, (s.port 0).latch, (s.port 0).trips)) (exec (.protectionTrip 0 .overCurrent 5)
      (bank.onPort 0 (fun p => { p with st := .on, trips := 0xFF }))) = some (.discharge, .ocp, 0) := by decide +kernel

/-- R25: TICK_COUNT wraps. -/
theorem test_tick_wraps :
    look (fun s => s.tick.count) (exec (.tickBoundary world ccOpen) (phase .startup (up.onTick (fun t => { t with count := 0xFFFFFFFF }))))
      = some 0 := by decide +kernel

/-- R406: the CRC-16 over the ASCII bytes "123456789". -/
theorem test_crc16 : crc16 [0x31, 0x32, 0x33, 0x34, 0x35, 0x36, 0x37, 0x38, 0x39] = 0x29B1 := by decide +kernel

/-- R169: IWA wraps within 24 bits as it moves on. -/
theorem test_iwa_wraps :
    look (fun s => s.tWin.iwa) (exec (.iwdRead .tally) (winUp { Win.reset with iwa := 0xFFFFFF, rdy := true })) = some 0 := by
  decide +kernel

/-- R212: an erased word is written, another is refused. -/
theorem test_nvm_write : look (fun s => (s.nvm.op, s.nvm.err)) (exec (.nvmWrite .tally 5) (up.onNvm (fun m => { m with data := 7 })))
    = some (some (.write, 5, 7), false) := by decide +kernel
theorem test_nvm_write_again : look (fun s => (s.nvm.op, s.nvm.err)) (exec (.nvmWrite .tally 5)
    (up.onNvm (fun m => { m with store := [(5, ⟨0, .good⟩)] }))) = some (none, true) := by decide +kernel

/-- R99: only the key resets. -/
theorem test_soft_reset_key : look (fun s => s.stby.soft) (exec (.softReset 0x7A10) up) = some false := by decide +kernel
theorem test_soft_reset : look (fun s => (s.stby.soft, s.stby.last, s.tick.count)) (exec (.softReset 0x7A11) up)
    = some (true, 4, 0) := by decide +kernel

/-- R598: IDCODE. -/
theorem test_idcode : look (fun s => s.tap.shift) (exec .idcode State.reset) = some 0x264169D3 := by decide +kernel

end Sys2Proof.Tests
end

/-!
PROOFS. What a boundary does with the use counters of a plot (R42, R43, R51 to R53): the plot after `boundaryPlot`, the
plots beside it, and the events it raises; O10 follows.
-/

namespace Sys2Proof.Machine

section
variable {s : State} {p j : Nat}

/-! ### Plots are read the same after a change of another part -/

@[simp] theorem plot_raisePlot (i kind addr : Nat) : (raisePlot i kind addr s).plot j = s.plot j := rfl
@[simp] theorem plot_onTick (f : Tick → Tick) : (s.onTick f).plot j = s.plot j := rfl
@[simp] theorem plot_rollSluices : (rollSluices p s).plot j = s.plot j := rfl

/-! ### A rolled-back item (R51) -/

theorem plot_rollItem_self (h : p < s.plots.length) :
    (rollItem p s).plot p = { waitsAgain (s.plot p) with running := none } :=
  plot_onPlot_self (rollSluices p s) p _ h

theorem plot_rollItem_ne (h : j ≠ p) : (rollItem p s).plot j = s.plot j :=
  plot_onPlot_ne (rollSluices p s) _ h

@[simp] theorem length_rollItem : (rollItem p s).plots.length = s.plots.length :=
  length_updNth s.plots p _

/-! ### The overrun of a plot (R42, R51) -/

/-- The cycles up to the boundary of an item still running. -/
def lateCycles (q : Plot) : Nat :=
  match q.running with
  | some r => 30000 - r.start
  | none => 0

/-- Those of an item of class Spate. -/
def lateSpate (q : Plot) : Nat :=
  match q.running with
  | some r => if r.cls = .spate then 30000 - r.start else 0
  | none => 0

/-- A plot after `overrunPlot`. -/
def overrunEnds (q : Plot) : Plot :=
  { q with
    used := q.used + lateCycles q
    spate := q.spate + lateSpate q
    running := none
    ready := (q.running.map Running.item).toList ++ q.ready
    ovrCnt := if q.running.isSome then satInc q.ovrCnt 65535 else q.ovrCnt }

/-- The OVERRUN event of an item still running in Pp. -/
def overrunEvents (p : Nat) (q : Plot) : List Event :=
  (q.running.map (fun r => ⟨srcPlot p, 0x01, r.item.kind⟩)).toList

theorem mem_overrunEvents {q : Plot} {r : Running} (h : q.running = some r) :
    ⟨srcPlot p, 0x01, r.item.kind⟩ ∈ overrunEvents p q := by
  simp [overrunEvents, h]

/-- Nothing overruns where no item runs. -/
theorem overrunEnds_of_idle {q : Plot} (h : q.running = none) : overrunEnds q = q := by
  cases q
  cases h
  rfl

/-- Rolling back, then counting the cycles and the overrun, is `overrunEnds`. -/
theorem overrunEnds_of_running {q : Plot} {r : Running} (h : q.running = some r) :
    overrunEnds q = { addCycles r.cls (30000 - r.start) { waitsAgain q with running := none } with
      ovrCnt := satInc q.ovrCnt 65535 } := by
  by_cases hc : r.cls = .spate <;> simp [overrunEnds, lateCycles, lateSpate, addCycles, waitsAgain, h, hc]

theorem plot_overrunPlot_self (h : p < s.plots.length) :
    (overrunPlot p s).plot p = overrunEnds (s.plot p) := by
  cases hr : (s.plot p).running with
  | none => simp [overrunPlot, hr, overrunEnds_of_idle hr]
  | some r =>
    have hroll : p < (rollItem p s).plots.length := by simpa using h
    simp [overrunPlot, hr, plot_onPlot_self _ _ _ hroll, plot_rollItem_self h, overrunEnds_of_running hr, addCycles,
      waitsAgain]

theorem plot_overrunPlot_ne (h : j ≠ p) : (overrunPlot p s).plot j = s.plot j := by
  cases hr : (s.plot p).running with
  | none => simp [overrunPlot, hr]
  | some r => simp [overrunPlot, hr, plot_onPlot_ne _ _ h, plot_rollItem_ne h]

@[simp] theorem length_overrunPlot : (overrunPlot p s).plots.length = s.plots.length := by
  cases hr : (s.plot p).running with
  | none => simp [overrunPlot, hr]
  | some r => simp [overrunPlot, hr, raisePlot]

theorem raised_overrunPlot :
    (overrunPlot p s).hay.raised = s.hay.raised ++ overrunEvents p (s.plot p) := by
  cases hr : (s.plot p).running with
  | none => simp [overrunPlot, overrunEvents, hr]
  | some r => simp [overrunPlot, overrunEvents, hr, raisePlot, rollItem, rollSluices]

/-! ### The whole boundary of a plot (R43, R53) -/

/-- Spate use above the reservation of Pp is counted. -/
def countExcess (p : Nat) (q : Plot) : Plot :=
  { q with spxCnt := if cSpateRes q.wc p < q.lastSpate then satInc q.spxCnt 255 else q.spxCnt }

/-- Plot Pp after `boundaryPlot`. -/
def boundaryEnds (p : Nat) (q : Plot) : Plot := countExcess p (latchPlot (overrunEnds q))

/-- The SPATE_EXCESS event of a plot Pp whose counts are latched. -/
def excessEvents (p : Nat) (q : Plot) : List Event :=
  if cSpateRes q.wc p < q.lastSpate then [⟨srcPlot p, 0x02, q.lastSpate⟩] else []

theorem mem_excessEvents {q : Plot} (h : cSpateRes q.wc p < q.lastSpate) :
    ⟨srcPlot p, 0x02, q.lastSpate⟩ ∈ excessEvents p q := by
  simp [excessEvents, h]

theorem plot_latched_self (h : p < s.plots.length) :
    ((overrunPlot p s).onPlot p latchPlot).plot p = latchPlot (overrunEnds (s.plot p)) := by
  rw [plot_onPlot_self _ _ _ (by simpa using h), plot_overrunPlot_self h]

theorem plot_boundaryPlot_self (h : p < s.plots.length) :
    (boundaryPlot p s).plot p = boundaryEnds p (s.plot p) := by
  have hlen : p < ((overrunPlot p s).onPlot p latchPlot).plots.length := by simpa using h
  simp only [boundaryPlot, plot_latched_self h, decide_eq_true_eq]
  split
  next hx => simp [boundaryEnds, countExcess, plot_latched_self h, plot_onPlot_self _ _ _ hlen, hx]
  next hx => simp [boundaryEnds, countExcess, plot_latched_self h, hx]

theorem plot_boundaryPlot_ne (h : j ≠ p) : (boundaryPlot p s).plot j = s.plot j := by
  simp only [boundaryPlot]
  split
  · simp [plot_onPlot_ne _ _ h, plot_overrunPlot_ne h]
  · simp [plot_onPlot_ne _ _ h, plot_overrunPlot_ne h]

theorem raised_boundaryPlot (h : p < s.plots.length) :
    (boundaryPlot p s).hay.raised
      = s.hay.raised ++ overrunEvents p (s.plot p) ++ excessEvents p (latchPlot (overrunEnds (s.plot p))) := by
  simp only [boundaryPlot, plot_latched_self h, decide_eq_true_eq]
  split
  next hx => simp [excessEvents, hx, raisePlot, raised_overrunPlot]
  next hx => simp [excessEvents, hx, raised_overrunPlot]

end

/-- Settles O10: the plot after the boundary is `boundaryEnds` of the plot before it, and the events are those of the
overrun followed by those of the excess. -/
theorem boundaryLatchesCounts : Obligations.BoundaryLatchesCounts := by
  unfold Obligations.BoundaryLatchesCounts
  intro p s hlen hp
  have hplot : p < s.plots.length := hlen ▸ hp
  simp only [plot_boundaryPlot_self hplot, raised_boundaryPlot hplot]
  refine ⟨rfl, rfl, rfl, rfl, rfl, rfl, rfl, ?ready, rfl, rfl, ?excess, ?overrun, fun j hj => plot_boundaryPlot_ne hj⟩
  case ready =>
    cases hr : (s.plot p).running <;> simp [boundaryEnds, countExcess, latchPlot, overrunEnds, hr]
  case excess =>
    intro hx
    exact List.mem_append_right _ (mem_excessEvents hx)
  case overrun =>
    intro r hr
    exact List.mem_append_left _ (List.mem_append_right _ (mem_overrunEvents hr))

end Sys2Proof.Machine

/-!
PROOFS. The controlled shutdown (R124, R125, R138, R428, R535): the equation of each of its seven rows, and what the
shared operations that take power away, release the buses and stop Type-C leave unchanged; O21 follows.
-/

namespace Sys2Proof.Machine

section
variable {s t u : State} {n j k : Nat}

/-! ### The gates of the steps and their ends (R124) -/

theorem inStep_of (hp : s.pwr.phase = .shutdown) (hk : s.pwr.shutStep = k) : inStep k s = true := by
  simp [inStep, hp, hk]

theorem stepOver_of (h : s.pwr.started = false ∨ s.pwr.shutAt < s.tick.now) : stepOver s = true := by
  simpa [stepOver] using h

/-- From `s`, step k has completed and the next begins. -/
def StepEnds (k : Nat) (s t : State) : Prop :=
  t.stby.shutSteps = s.stby.shutSteps ||| BitVec.ofNat 7 (2 ^ (k - 1))
    ∧ t.pwr.shutStep = k + 1 ∧ t.pwr.shutAt = s.tick.now

theorem stepEnds_endStep : StepEnds k s (endStep k s) := ⟨rfl, rfl, rfl⟩

/-- A row whose situation holds has its effect. -/
theorem goOn_onlyIf_of {c : Bool} {f : State → State} (h : c = true) : goOn (onlyIf c f s) = .next (f s) := by
  rw [onlyIf_of f h, goOn_eq]

/-- A property that the effect for each element keeps holds at the end. -/
theorem forEach_induction {α : Type} {P : State → Prop} {f : α → State → State} {l : List α} (h : P s)
    (step : ∀ a t, P t → P (f a t)) : P (forEach l f s) := by
  induction l generalizing s with
  | nil => exact h
  | cons a l ih => exact ih (step a s h)

/-! ### A port's splits close when it leaves the bus (R265, R286) -/

/-- From `s`, only the memories, the hub and the ports, which are now `ports`, have changed, and events were raised. -/
def LeavesBus (ports : List PPort) (s t : State) : Prop :=
  ∃ mem hub evs, t = { s with
    mem := mem, hub := hub, ports := ports, hay := { s.hay with raised := s.hay.raised ++ evs } }

theorem leavesBus_of_mem_hub (mem : Mem) (hub : Hub) (ports : List PPort) :
    LeavesBus ports s { s with mem := mem, hub := hub, ports := ports } :=
  ⟨mem, hub, [], by simp⟩

theorem leavesBus_refl : LeavesBus s.ports s s := leavesBus_of_mem_hub s.mem s.hub s.ports

theorem LeavesBus.trans {p q : List PPort} (h : LeavesBus p s t) (h' : LeavesBus q t u) : LeavesBus q s u := by
  obtain ⟨_, _, evs, rfl⟩ := h
  obtain ⟨mem, hub, evs', rfl⟩ := h'
  exact ⟨mem, hub, evs ++ evs', by simp⟩

theorem LeavesBus.ports_eq {p : List PPort} (h : LeavesBus p s t) : t.ports = p := by
  obtain ⟨_, _, _, rfl⟩ := h
  rfl

/-- No event raised before is lost. -/
theorem LeavesBus.mem_raised {p : List PPort} {e : Event} (h : LeavesBus p s t) (he : e ∈ s.hay.raised) :
    e ∈ t.hay.raised := by
  obtain ⟨_, _, _, rfl⟩ := h
  exact List.mem_append_left _ he

theorem LeavesBus.then_mem_hub {p : List PPort} (h : LeavesBus p s t) (mem : Mem) (hub : Hub) :
    LeavesBus p s { t with mem := mem, hub := hub } := by
  obtain rfl := h.ports_eq
  exact h.trans (leavesBus_of_mem_hub mem hub t.ports)

theorem LeavesBus.then_raise {p : List PPort} (h : LeavesBus p s t) (e : Event) : LeavesBus p s (raise e t) := by
  obtain rfl := h.ports_eq
  exact h.trans ⟨t.mem, t.hub, [e], rfl⟩

theorem leavesBus_closeSplit (x : Split) (r : Close) : LeavesBus s.ports s (closeSplit x r s) := by
  have hclose : LeavesBus s.ports s (closeEntry x.id r s) := leavesBus_of_mem_hub _ _ _
  have hraise (kind : Nat) : LeavesBus s.ports s (raisePlot (s.entry x.id).owner kind x.id (closeEntry x.id r s)) :=
    hclose.then_raise _
  unfold closeSplit
  split
  · exact leavesBus_refl
  · refine LeavesBus.then_mem_hub (LeavesBus.then_mem_hub ?_ _ _) _ _
    split
    · split
      · exact hclose
      · exact hraise 0x14
    · split
      · exact hclose
      · exact hraise 0x15
    · exact hclose

theorem leavesBus_dropSplit (x : Split) : LeavesBus s.ports s (dropSplit x s) := by
  unfold dropSplit
  split
  · exact leavesBus_closeSplit x .cancelled
  · dsimp only
    split
    · exact (leavesBus_refl.then_raise _).trans (leavesBus_closeSplit x .errFar)
    · exact leavesBus_closeSplit x .errFar

theorem leavesBus_dropPortSplits : LeavesBus s.ports s (dropPortSplits n s) := by
  refine LeavesBus.then_mem_hub (forEach_induction leavesBus_refl fun x t ht => ?_) _ _
  exact ht.ports_eq ▸ ht.trans (leavesBus_dropSplit x)

/-- Protection apart, the hub's part of a loss of power changes no port. -/
theorem leavesBus_hubOff : LeavesBus s.ports s (hubOff false n s) := by
  simp only [hubOff, Bool.false_eq_true, if_false]
  split
  · exact leavesBus_refl
  · exact (leavesBus_of_mem_hub _ _ _).trans leavesBus_dropPortSplits

/-! ### The power of a slow port (R125, R463) -/

/-- The ports after the power of port n, if it had any, is gone. -/
def discharged (n : Nat) (s : State) : List PPort :=
  if active (s.port n) then (enterPower .discharge n s).ports else s.ports

theorem leavesBus_dischargePort : LeavesBus (discharged n s) s (dischargePort false n s) := by
  unfold dischargePort discharged
  split
  · exact (leavesBus_of_mem_hub _ _ _).trans leavesBus_hubOff
  · exact leavesBus_refl

/-- What the end of step 3 does to a port that is not OFF. -/
def endSlow (n : Nat) (s : State) : State := raisePort n 0x2F (dischargePort false n s)

theorem leavesBus_endSlow : LeavesBus (discharged n s) s (endSlow n s) := leavesBus_dischargePort.then_raise _

theorem ports_endSlow : (endSlow n s).ports = discharged n s := leavesBus_endSlow.ports_eq

/-- A place beyond the list of ports reads as a port that is OFF. -/
theorem lt_length_of_port_not_off (h : (s.port n).st ≠ .off) : n < s.ports.length := by
  by_contra hn
  exact h (congrArg PPort.st (List.getD_eq_default s.ports PPort.reset (not_lt.mp hn)))

theorem port_endSlow_ne (h : j ≠ n) : (endSlow n s).port j = s.port j := by
  rw [State.port, ports_endSlow, discharged]
  split
  · exact port_onPort_ne s _ h
  · rfl

theorem port_endSlow_self (h : (s.port n).st ≠ .off) : ((endSlow n s).port n).st = .discharge := by
  rw [State.port, ports_endSlow, discharged]
  split
  next => exact congrArg PPort.st (port_onPort_self s n _ (lt_length_of_port_not_off h))
  next hactive =>
    change (s.port n).st = .discharge
    cases hst : (s.port n).st <;> simp_all [active]

theorem port_endSlow_not_off (h : (s.port j).st ≠ .off) : ((endSlow n s).port j).st ≠ .off := by
  by_cases hj : j = n
  · subst hj
    simp [port_endSlow_self h]
  · rwa [port_endSlow_ne hj]

theorem mem_raised_endSlow : ⟨0x41 + n, 0x2F, n + 1⟩ ∈ (endSlow n s).hay.raised :=
  List.mem_append_right _ (List.mem_singleton_self _)

/-! ### The power of all slow ports -/

/-- The ports that step 3 does not find OFF. -/
def slowPorts (s : State) : List Nat := (List.range 16).filter (fun n => (s.port n).st ≠ .off)

theorem mem_slowPorts : n ∈ slowPorts s ↔ n < 16 ∧ (s.port n).st ≠ .off := by
  simp [slowPorts]

theorem slowPorts_eq_nil (h : ∀ n < 16, (s.port n).st = .off) : slowPorts s = [] := by
  simpa [slowPorts] using h

theorem leavesBus_endSlows {l : List Nat} : LeavesBus (forEach l endSlow s).ports s (forEach l endSlow s) :=
  forEach_induction (P := fun t => LeavesBus t.ports s t) leavesBus_refl fun _ _ h =>
    h.trans (ports_endSlow ▸ leavesBus_endSlow)

theorem port_endSlows_of_not_mem {l : List Nat} (h : j ∉ l) : (forEach l endSlow s).port j = s.port j := by
  induction l generalizing s with
  | nil => rfl
  | cons n l ih =>
    rw [forEach_cons, ih (List.not_mem_of_not_mem_cons h), port_endSlow_ne (List.ne_of_not_mem_cons h)]

theorem port_endSlows_of_mem {l : List Nat} (hj : j ∈ l) (h : (s.port j).st ≠ .off) :
    ((forEach l endSlow s).port j).st = .discharge := by
  induction l generalizing s with
  | nil => cases hj
  | cons n l ih =>
    rw [forEach_cons]
    by_cases hl : j ∈ l
    · exact ih hl (port_endSlow_not_off h)
    · obtain rfl := (List.mem_cons.mp hj).resolve_right hl
      rw [port_endSlows_of_not_mem hl, port_endSlow_self h]

theorem mem_raised_endSlows {l : List Nat} (hj : j ∈ l) :
    ⟨0x41 + j, 0x2F, j + 1⟩ ∈ (forEach l endSlow s).hay.raised := by
  induction l generalizing s with
  | nil => cases hj
  | cons n l ih =>
    rw [forEach_cons]
    obtain rfl | hl := List.mem_cons.mp hj
    · exact leavesBus_endSlows.mem_raised mem_raised_endSlow
    · exact ih hl

theorem port_after_endSlows_of_off (h : (s.port n).st = .off) :
    (forEach (slowPorts s) endSlow s).port n = s.port n :=
  port_endSlows_of_not_mem fun hmem => (mem_slowPorts.mp hmem).2 h

/-- R125: a port that step 3 does not find OFF loses its power, and is named. -/
theorem port_after_endSlows_of_not_off (hn : n < 16) (h : (s.port n).st ≠ .off) :
    ((forEach (slowPorts s) endSlow s).port n).st = .discharge
      ∧ ⟨0x41 + n, 0x2F, n + 1⟩ ∈ (forEach (slowPorts s) endSlow s).hay.raised :=
  have hmem := mem_slowPorts.mpr ⟨hn, h⟩
  ⟨port_endSlows_of_mem hmem h, mem_raised_endSlows hmem⟩

theorem stepEnds_after_endSlows {l : List Nat} : StepEnds k s (endStep k (forEach l endSlow s)) := by
  obtain ⟨_, _, _, hslow⟩ := leavesBus_endSlows (s := s) (l := l)
  rw [hslow]
  exact stepEnds_endStep

/-! ### The buses are released (R124, R428) -/

/-- A frame sent or held back changes the link alone, and may spend the armed injection. -/
theorem sendFrame_frame (f : TFrame) :
    ∃ tand arm, sendFrame f s = { s with tand := tand, hay := { s.hay with injArm := arm } } := by
  unfold sendFrame sendNow
  split
  · cases tandArmed s
    · exact ⟨_, _, rfl⟩
    · exact ⟨_, _, rfl⟩
  · exact ⟨_, _, rfl⟩

/-- C1 and the strings are let go. -/
def BusesFree (c : Culvs) : Prop :=
  c.bus.held = false ∧ c.bus.lockOwn = false ∧ c.bus.granting = false ∧ c.c2.ser = .idle ∧ c.c3.ser = .idle

/-- What the end of step 3 does to the culverts. -/
def letBusesGo (s : State) : State :=
  forEach [1, 2] (fun c => State.onCulv c (fun k =>
    { k with ser := .idle, ops := k.ops.filter (fun o => !o.closed), chainNow := 0 })) (releaseC1 s)

theorem letBusesGo_frame : ∃ culvs, BusesFree culvs ∧ letBusesGo s = { s with culvs := culvs } :=
  ⟨(letBusesGo s).culvs, ⟨rfl, rfl, rfl, rfl, rfl⟩, rfl⟩

theorem busesOff_eq : busesOff s =
    if s.tand.st = .keeper && s.tand.linkUp then sendFrame .handover (letBusesGo s) else letBusesGo s := rfl

theorem busesOff_frame : ∃ culvs tand arm, BusesFree culvs
    ∧ busesOff s = { s with culvs := culvs, tand := tand, hay := { s.hay with injArm := arm } } := by
  obtain ⟨culvs, hfree, hgo⟩ := letBusesGo_frame (s := s)
  rw [busesOff_eq, hgo]
  split
  · obtain ⟨tand, arm, hsend⟩ := sendFrame_frame (s := { s with culvs := culvs }) .handover
    exact ⟨culvs, tand, arm, hfree, hsend⟩
  · exact ⟨culvs, s.tand, s.hay.injArm, hfree, rfl⟩

/-! ### Type-C stops (R504, R535) -/

/-- From `s`, only the Type-C ports, the requests to the ports, the endpoints and the ready items have changed. -/
def OnlyTypeC (s t : State) : Prop :=
  ∃ tcs ports hub plots, t = { s with tcs := tcs, ports := ports, hub := hub, plots := plots }

theorem onlyTypeC_refl : OnlyTypeC s s := ⟨_, _, _, _, rfl⟩

theorem OnlyTypeC.trans (h : OnlyTypeC s t) (h' : OnlyTypeC t u) : OnlyTypeC s u := by
  obtain ⟨_, _, _, _, rfl⟩ := h
  obtain ⟨_, _, _, _, rfl⟩ := h'
  exact ⟨_, _, _, _, rfl⟩

theorem onlyTypeC_pushIn (e : Nat) (ws : List W) : OnlyTypeC s (pushIn e ws s) := by
  unfold pushIn readyEp
  split
  · exact ⟨_, _, _, _, rfl⟩
  · exact ⟨_, _, _, _, rfl⟩

theorem onlyTypeC_setPd (i : Nat) : OnlyTypeC s (setPd i n s) := by
  unfold setPd
  dsimp only
  split
  · exact OnlyTypeC.trans ⟨_, _, _, _, rfl⟩ (onlyTypeC_pushIn _ _)
  · exact ⟨_, _, _, _, rfl⟩

theorem onlyTypeC_leaveAttached : OnlyTypeC s (leaveAttached n s) := by
  unfold leaveAttached
  split
  · exact onlyTypeC_refl
  · exact OnlyTypeC.trans ⟨_, _, _, _, rfl⟩ (onlyTypeC_setPd 1)

theorem onlyTypeC_tcSync : OnlyTypeC s (tcSync n s) := by
  unfold tcSync
  split
  · split
    · exact ⟨_, _, _, _, rfl⟩
    · exact onlyTypeC_refl
  · split
    · exact onlyTypeC_refl
    · exact onlyTypeC_leaveAttached.trans ⟨_, _, _, _, rfl⟩

theorem onlyTypeC_forTcs : OnlyTypeC s (forTcs tcSync s) :=
  forEach_induction onlyTypeC_refl fun _ _ h => h.trans onlyTypeC_tcSync

/-! ### Device reset of the last step (R130, R138) -/

/-- A reset that tears nothing leaves a pulse under way alone, an erase apart. -/
theorem resetPulses_of_no_erase (h : ∀ a v, s.nvm.op ≠ some (.erase, a, v)) : resetPulses false s = s := by
  unfold resetPulses
  split
  next a v hop => exact absurd hop (h a v)
  next => simp
  next => simp

/-- The state in which step 7 leaves the device where no erase is cut. -/
def standbyReset (s : State) : State :=
  (resetParts (recordCause 6 ((endStep 7 s).onStby (fun b => { b with incomplete := false })))).onPwr (fun p =>
    { p with phase := .standby, runRecorded := s.pwr.runRecorded })

theorem resetDone_standbyReset : ResetDone s (standbyReset s) where
  tick := rfl
  plots := rfl
  field := rfl
  tally := rfl
  wins := ⟨rfl, rfl⟩
  usb := rfl
  cfg := rfl
  nvm := rfl
  fuse := ⟨rfl, rfl⟩
  mem := rfl
  sluices := rfl
  hub := rfl
  culvs := rfl
  tand := rfl
  cads := rfl
  ports := rfl
  adc := rfl
  tcs := rfl
  hay := rfl
  tap := rfl
  vio := ⟨rfl, rfl, rfl⟩
  pending := rfl

theorem standbyReset_stby : (standbyReset s).stby = { s.stby with
    shutSteps := s.stby.shutSteps ||| 64, incomplete := false, shutdown := true, last := 6 } := by
  simp [standbyReset, resetParts, recordCause, endStep]

/-! ### The seven rows -/

section
variable (hp : s.pwr.phase = .shutdown)
include hp

theorem exec_shutdownStop (hk : s.pwr.shutStep = 1) (due : s.pwr.started = false ∨ s.pwr.shutAt < s.tick.now) :
    exec .shutdownStop s = .next (endStep 1 s) :=
  goOn_onlyIf_of (by simp [inStep_of hp hk, stepOver_of due])

theorem exec_shutdownDrain (hk : s.pwr.shutStep = 2) (hd : drained s = true) :
    exec .shutdownDrain s = .next (portsOff (endStep 2 s)) := by
  refine (goOn_onlyIf_of (inStep_of hp hk)).trans ?_
  simp [hd]

theorem exec_shutdownPorts (hk : s.pwr.shutStep = 3) (h : slowPorts s = [] ∨ s.pwr.shutAt + 800 ≤ s.tick.now) :
    exec .shutdownPorts s = .next (busesOff (endStep 3 (forEach (slowPorts s) endSlow s))) :=
  goOn_onlyIf_of (by simpa [inStep_of hp hk, slowPorts] using h)

theorem exec_shutdownBuses (hk : s.pwr.shutStep = 4) (due : s.pwr.started = false ∨ s.pwr.shutAt < s.tick.now)
    (h : handoverOpen s = false ∨ s.pwr.shutAt + 5 ≤ s.tick.now) :
    exec .shutdownBuses s = .next ((endStep 4 s).onHub (fun h =>
      { h with pullup := false, speed := 0, susp := false, driveK := false })) :=
  goOn_onlyIf_of (by simpa [inStep_of hp hk, stepOver_of due] using h)

theorem exec_shutdownUpstream (hk : s.pwr.shutStep = 5) (due : s.pwr.started = false ∨ s.pwr.shutAt < s.tick.now) :
    exec .shutdownUpstream s
      = .next (forTcs tcSync ((endStep 5 s).onPwr (fun p => { p with wdogArmed := false }))) :=
  goOn_onlyIf_of (by simp [inStep_of hp hk, stepOver_of due])

theorem exec_shutdownField (hk : s.pwr.shutStep = 6) (due : s.pwr.started = false ∨ s.pwr.shutAt < s.tick.now) :
    exec .shutdownField s = .next (endStep 6 s) :=
  goOn_onlyIf_of (by simp [inStep_of hp hk, stepOver_of due])

theorem exec_shutdownStandby (hk : s.pwr.shutStep = 7) (h : ∀ a v, s.nvm.op ≠ some (.erase, a, v)) :
    exec .shutdownStandby s = .next (standbyReset s) := by
  refine (goOn_onlyIf_of (inStep_of hp hk)).trans ?_
  dsimp only
  rw [resetPulses_of_no_erase]
  · rfl
  · exact h

end

end

/-- Settles O21: each step is the equation of its row, with what its shared operations leave unchanged. That step 3
begins with an OFF to every port, whatever its state, is the model's choice (log 49). -/
theorem shutdownSteps : Obligations.ShutdownSteps := by
  unfold Obligations.ShutdownSteps
  intro s hp bit due
  refine ⟨?stop, ?drain, ?portsFound, ?portsSlow, ?buses, ?upstream, ?field, ?standby⟩
  case stop =>
    intro hk hdue
    exact ⟨_, exec_shutdownStop hp hk hdue, stepEnds_endStep, rfl⟩
  case drain =>
    intro hk hd
    exact ⟨_, exec_shutdownDrain hp hk hd, stepEnds_endStep, rfl, rfl, rfl⟩
  case portsFound =>
    intro hk hoff
    have hnil := slowPorts_eq_nil hoff
    have hrun := exec_shutdownPorts hp hk (.inl hnil)
    obtain ⟨culvs, tand, arm, ⟨hheld, hlock, hgrant, hc2, hc3⟩, hend⟩ := busesOff_frame (s := endStep 3 s)
    rw [hnil, forEach_nil, hend] at hrun
    exact ⟨_, hrun, stepEnds_endStep, hheld, hlock, hgrant, hc2, hc3, rfl⟩
  case portsSlow =>
    intro hk hlate
    have hrun := exec_shutdownPorts hp hk (.inr hlate)
    obtain ⟨_, _, _, _, hend⟩ := busesOff_frame (s := endStep 3 (forEach (slowPorts s) endSlow s))
    rw [hend] at hrun
    exact ⟨_, hrun, stepEnds_after_endSlows, fun n hn =>
      ⟨port_after_endSlows_of_off, port_after_endSlows_of_not_off hn⟩⟩
  case buses =>
    intro hk hdue hover
    exact ⟨_, exec_shutdownBuses hp hk hdue hover, stepEnds_endStep, rfl, rfl⟩
  case upstream =>
    intro hk hdue
    have hrun := exec_shutdownUpstream hp hk hdue
    obtain ⟨_, _, _, _, hsync⟩ := onlyTypeC_forTcs (s := (endStep 5 s).onPwr (fun p => { p with wdogArmed := false }))
    rw [hsync] at hrun
    exact ⟨_, hrun, stepEnds_endStep, rfl, rfl, rfl, rfl, rfl⟩
  case field =>
    intro hk hdue
    exact ⟨_, exec_shutdownField hp hk hdue, stepEnds_endStep, rfl⟩
  case standby =>
    intro hk hop
    exact ⟨_, exec_shutdownStandby hp hk hop, resetDone_standbyReset, rfl, rfl, standbyReset_stby⟩

end Sys2Proof.Machine

/-!
PROOFS. Tally frames (R119, R149 to R153, R156, R158, R159, R188 to R190, R192): the falling edge, the frames that are
counted without taking place, the bits of a read that a frame of a wrong length has sent, and the frames of a right
length; O30 follows.
-/

namespace Sys2Proof.Machine

section
variable {s : State} {cmd crc : Byte} {data : W} {clocks : Nat}

/-! ### The falling edge (R119, R160) -/

theorem tallyFall_eq_ite : tallyFall s =
    if s.pwr.phase = .rest ∧ s.pwr.wake = false then
      { s with
        tally := { s.tally with hold := false, holdMsg := false }, stby := { s.stby with prev := [] }
        pwr := { s.pwr with wake := true, wakeAt := s.tick.now } }
    else
      { s with tally := { s.tally with hold := false, holdMsg := false }, stby := { s.stby with prev := [] } } :=
  if_congr (by rw [Bool.and_eq_true, decide_eq_true_eq, Bool.not_eq_true']; rfl) rfl rfl

theorem tally_tallyFall : (tallyFall s).tally = { s.tally with hold := false, holdMsg := false } := by
  rw [tallyFall_eq_ite]
  split
  · rfl
  · rfl

/-! ### The outcomes of a frame (R153, R192) -/

theorem finishTally_malformed : finishTally .malformed s =
    { s with tally := { s.tally with
        last := .malformed, malformed := true, malCnt := satInc s.tally.malCnt 255 } } := by
  simp [finishTally, State.onTally]

theorem finishTally_crcBad : finishTally .crcBad s =
    { s with tally := { s.tally with
        last := .crcBad, crcErr := true, crcCnt := satInc s.tally.crcCnt 255 } } := by
  simp [finishTally, State.onTally]

theorem finishTally_unmapped : finishTally .unmapped s =
    { s with tally := { s.tally with last := .unmapped, unmapped := true } } := by
  simp [finishTally, State.onTally]

/-- A frame found malformed leaves its falling edge and its count. -/
theorem finishTally_malformed_tallyFall : finishTally .malformed (tallyFall s) =
    { tallyFall s with tally := { (tallyFall s).tally with
        last := .malformed, malformed := true, malCnt := satInc s.tally.malCnt 255 } } := by
  rw [finishTally_malformed, tally_tallyFall]

/-- A frame with a wrong CRC leaves its falling edge and its count. -/
theorem finishTally_crcBad_tallyFall : finishTally .crcBad (tallyFall s) =
    { tallyFall s with tally := { (tallyFall s).tally with
        last := .crcBad, crcErr := true, crcCnt := satInc s.tally.crcCnt 255 } } := by
  rw [finishTally_crcBad, tally_tallyFall]

/-! ### What a read sends (R149, R156, R189) -/

theorem sentBits_of_zero {w n : Nat} : sentBits n (0 : BitVec w) = 0 := BitVec.zero_and

theorem sentBits_none {w n : Nat} {x : BitVec w} (h : n = 0) : sentBits n x = 0 := by
  simp [sentBits, h]

theorem sentBits_all {w n : Nat} {x : BitVec w} (h : w ≤ n) : sentBits n x = x := by
  simp [sentBits, BitVec.ushiftRight_eq_zero h]

/-- A read that fails sends zeros and, with LCRC, the complement of their CRC. -/
theorem readTdo_of_failed {st : Byte} {lcrc : Bool} {o : Outc} {d : W} (hok : o ≠ .ok) (hpoison : o ≠ .poison) :
    readTdo st cmd lcrc o d = ⟨st, 0, if lcrc then ~~~(crc8 (cmd :: frameBytes 0)) else 0⟩ := by
  cases lcrc <;> simp [readTdo, hok, hpoison]

theorem readTdo_ok {st : Byte} {lcrc : Bool} {d : W} :
    readTdo st cmd lcrc .ok d = ⟨st, d, if lcrc then crc8 (cmd :: frameBytes d) else 0⟩ := by
  cases lcrc <;> simp [readTdo]

/-- What the device would send in a read frame of the right length. -/
def fullTdo (cmd crc : Byte) (s : State) : Tdo :=
  let bad := s.tally.lcrc && crc ≠ crc8 [cmd]
  let r := regRead .tally (cmd.toNat % 128) s
  readTdo (statusByte s) cmd s.tally.lcrc (if bad then .crcBad else r.1) (if bad then 0 else r.2.1)

theorem fullTdo_of_wrong_crc (hl : s.tally.lcrc = true) (hcrc : crc ≠ crc8 [cmd]) :
    fullTdo cmd crc s = ⟨statusByte s, 0, ~~~(crc8 (cmd :: frameBytes 0))⟩ := by
  simp [fullTdo, hl, hcrc, readTdo_of_failed]

/-! ### The rows (R188, R190) -/

theorem exec_tallyNullFrame (hc : clocked s = true) : exec .tallyNullFrame s = .next (tallyFall s) :=
  goOn_onlyIf_of hc

theorem exec_tallyFrameTimeout (hc : clocked s = true) :
    exec .tallyFrameTimeout s = .next (finishTally .malformed (tallyFall s)) :=
  goOn_onlyIf_of hc

theorem exec_tallyWriteFrame (hc : clocked s = true) (hn : clocks ≠ 0) (hw : cmd.getLsbD 7 = true) :
    exec (.tallyWriteFrame cmd data crc clocks) s = .next (writeFrame cmd data crc clocks s) := by
  refine (goOn_onlyIf_of (by rw [hc, hw]; rfl)).trans ?_
  rw [if_neg hn]

theorem exec_tallyReadFrame (hc : clocked s = true) (hn : clocks ≠ 0) (hr : cmd.getLsbD 7 = false) :
    exec (.tallyReadFrame cmd crc clocks) s = .next (readFrame cmd crc clocks s) := by
  refine (goOn_onlyIf_of (by rw [hc, hr]; rfl)).trans ?_
  rw [if_neg hn]

/-- A register write through the tally port is the write of a well-formed frame. -/
theorem exec_registerWrite_tally {idx : BitVec 7} (hc : clocked s = true) :
    exec (.registerWrite .tally idx data) s = .next (tallyWrite idx.toNat data s) :=
  congrArg goOn (if_pos hc)

/-! ### Write frames (R149, R152, R188, R192) -/

theorem writeFrame_of_wrong_length (h : clocks ≠ (if s.tally.lcrc then 48 else 40)) :
    writeFrame cmd data crc clocks s = badFrame .malformed ⟨statusByte s, 0, 0⟩ s :=
  if_pos h

theorem writeFrame_of_wrong_crc (h : clocks = 48) (hl : s.tally.lcrc = true)
    (hcrc : crc ≠ crc8 (cmd :: frameBytes data)) :
    writeFrame cmd data crc clocks s = badFrame .crcBad ⟨statusByte s, 0, 0⟩ s := by
  simp [writeFrame, h, hl, hcrc]

theorem writeFrame_of_right (h : clocks = (if s.tally.lcrc then 48 else 40))
    (hcrc : s.tally.lcrc = true → crc = crc8 (cmd :: frameBytes data)) :
    writeFrame cmd data crc clocks s =
      tallyWrite (cmd.toNat % 128) data (s.onTally (fun t => { t with tdo := ⟨statusByte s, 0, 0⟩ })) := by
  have hgood : ¬((s.tally.lcrc && crc ≠ crc8 (cmd :: frameBytes data)) = true) := by simpa using hcrc
  exact (if_neg (not_not_intro h)).trans (if_neg hgood)

/-! ### Read frames (R149, R156, R159, R188, R189, R192) -/

theorem readFrame_of_wrong_length (h : clocks ≠ (if s.tally.lcrc then 56 else 48)) :
    readFrame cmd crc clocks s = badFrame .malformed (sentTdo clocks (fullTdo cmd crc s)) s :=
  if_pos h

theorem readFrame_of_wrong_crc (h : clocks = 56) (hl : s.tally.lcrc = true) (hcrc : crc ≠ crc8 [cmd]) :
    readFrame cmd crc clocks s = badFrame .crcBad (fullTdo cmd crc s) s := by
  simp [readFrame, fullTdo, h, hl, hcrc]

theorem readFrame_of_right (h : clocks = (if s.tally.lcrc then 56 else 48))
    (hcrc : s.tally.lcrc = true → crc = crc8 [cmd]) :
    readFrame cmd crc clocks s = tallyRead (cmd.toNat % 128) (readTdo (statusByte s) cmd s.tally.lcrc) s := by
  have hgood : ¬((s.tally.lcrc && crc ≠ crc8 [cmd]) = true) := by simpa using hcrc
  exact (if_neg (not_not_intro h)).trans (if_neg hgood)

/-- A read of a register has no effect, IWD and HW_MSG apart (R159). -/
theorem regRead_of_mapped {path : Path} {idx : Nat} {w : W} (h5 : idx ≠ 0x05) (h1A : idx ≠ 0x1A)
    (h : directValue s path idx = some w) : regRead path idx s = (.ok, w, s) := by
  simp [regRead, h, h5, h1A]

theorem regRead_of_unmapped {path : Path} {idx : Nat} (h : directValue s path idx = none) :
    regRead path idx s = (.unmapped, 0, s) := by
  simp [regRead, h]

theorem tallyRead_of_mapped {idx : Nat} {tdo : Outc → W → Tdo} {w : W} (h5 : idx ≠ 0x05) (h1A : idx ≠ 0x1A)
    (h : directValue (tallyFall s) .tally idx = some w) :
    tallyRead idx tdo s =
      { tallyFall s with tally := { (tallyFall s).tally with last := .ok, tdo := tdo .ok w } } := by
  rw [tallyRead, regRead_of_mapped h5 h1A h, finishTally_ok]
  rfl

theorem tallyRead_of_unmapped {idx : Nat} {tdo : Outc → W → Tdo}
    (h : directValue (tallyFall s) .tally idx = none) :
    tallyRead idx tdo s =
      { tallyFall s with tally := { (tallyFall s).tally with
          last := .unmapped, unmapped := true, tdo := tdo .unmapped 0 } } := by
  rw [tallyRead, regRead_of_unmapped h, finishTally_unmapped]
  rfl

end

/-- A command byte of a read is its index. -/
theorem toNat_mod_of_read {cmd : Byte} (h : cmd.getLsbD 7 = false) : cmd.toNat % 128 = cmd.toNat :=
  Nat.mod_eq_of_lt (BitVec.toNat_lt_of_msb_false h)

/-- Settles O30: the falling edge is the state of `tallyFall_eq_ite`, and each frame is the equation of its case. -/
theorem tallyFrames : Obligations.TallyFrames := by
  unfold Obligations.TallyFrames
  intro cmd data crc clocks s hc hn s0 u st bad badCrc
  have hu : tallyFall s = u := tallyFall_eq_ite
  have hbad : finishTally .malformed (tallyFall s) = bad := hu ▸ finishTally_malformed_tallyFall
  have hbadCrc : finishTally .crcBad (tallyFall s) = badCrc := hu ▸ finishTally_crcBad_tallyFall
  have hmalformed (tdo : Tdo) :
      badFrame .malformed tdo s = { bad with tally := { bad.tally with tdo := tdo } } := hbad ▸ rfl
  have hcrcBad (tdo : Tdo) :
      badFrame .crcBad tdo s = { badCrc with tally := { badCrc.tally with tdo := tdo } } := hbadCrc ▸ rfl
  refine ⟨?null, ?timeout, fun hw => ?write, fun hr => ?read⟩
  case null => rw [exec_tallyNullFrame hc, hu]
  case timeout => rw [exec_tallyFrameTimeout hc, hbad]
  case write =>
    rw [exec_tallyWriteFrame hc hn hw]
    refine ⟨fun hlen => ?_, fun h48 hl hcrc => ?_, fun hlen hcrc => ?_⟩
    · rw [writeFrame_of_wrong_length hlen, hmalformed]
      rfl
    · rw [writeFrame_of_wrong_crc h48 hl hcrc, hcrcBad]
      rfl
    · rw [writeFrame_of_right hlen hcrc]
      refine ⟨_, rfl, ?_⟩
      have hc' : clocked { s with tally := { s.tally with tdo := ⟨st, 0, 0⟩ } } = true := hc
      rw [exec_registerWrite_tally hc', BitVec.toNat_setWidth]
      rfl
  case read =>
    rw [exec_tallyReadFrame hc hn hr]
    refine ⟨fun hlen => ?length, fun h56 hl hcrc => ?crc, fun hlen hcrc h5 h1A => ?right⟩
    case length =>
      rw [readFrame_of_wrong_length hlen, hmalformed]
      refine ⟨_, rfl, fun h => sentBits_all h, fun h => sentBits_none (by omega), fun h => sentBits_none (by omega),
        fun hl hcrc => ?_⟩
      rw [fullTdo_of_wrong_crc hl hcrc]
      exact ⟨sentBits_of_zero, fun h => sentBits_all (by omega)⟩
    case crc =>
      rw [readFrame_of_wrong_crc h56 hl hcrc, hcrcBad, fullTdo_of_wrong_crc hl hcrc]
      rfl
    case right =>
      have h5' : cmd.toNat ≠ 0x05 := fun h => h5 (BitVec.eq_of_toNat_eq h)
      have h1A' : cmd.toNat ≠ 0x1A := fun h => h1A (BitVec.eq_of_toNat_eq h)
      rw [readFrame_of_right hlen hcrc, toNat_mod_of_read hr, ← hu]
      refine ⟨fun w hw => ?_, fun hnone => ?_⟩
      · rw [tallyRead_of_mapped h5' h1A' hw, readTdo_ok]
        rfl
      · rw [tallyRead_of_unmapped hnone, readTdo_of_failed (by decide) (by decide)]
        rfl

end Sys2Proof.Machine

/-!
PROOFS. Fences and the open window (R217, R231, R237, R245, R246, R250): what the load of a working copy makes of the
words the plots run, the plots and the configuration after a joint step, the pause of a fence and its end; O26 follows.
-/

namespace Sys2Proof.Machine

section
variable {s t : State} {p j : Nat}

/-! ### The words the plots run are the same after work on other parts -/

/-- The configuration, and the words each plot runs (R217). -/
def runs (s : State) : Cfg × List (Store W) := (s.cfg, s.plots.map Plot.wc)

theorem map_updNth {α β : Type} {f : α → α} {g : α → β} {h : β → β} (hc : ∀ x, g (f x) = h (g x)) (l : List α)
    (i : Nat) : (updNth l i f).map g = updNth (l.map g) i h := by
  induction l generalizing i with
  | nil => rfl
  | cons x l ih => cases i <;> simp [updNth, hc, ih]

@[simp] theorem updNth_id {α : Type} (l : List α) (i : Nat) : updNth l i id = l := by
  induction l generalizing i with
  | nil => rfl
  | cons x l ih => cases i <;> simp [updNth, ih]

@[simp] theorem runs_onHub (f : Hub → Hub) : runs (s.onHub f) = runs s := rfl
@[simp] theorem runs_onEp (e : Nat) (f : FEp → FEp) : runs (s.onEp e f) = runs s := rfl
@[simp] theorem runs_onCulv (c : Nat) (f : Culv → Culv) : runs (s.onCulv c f) = runs s := rfl
@[simp] theorem runs_onTand (f : Tand → Tand) : runs (s.onTand f) = runs s := rfl
@[simp] theorem runs_onCad (k : Nat) (f : Stream → Stream) : runs (s.onCad k f) = runs s := rfl
@[simp] theorem runs_onPort (n : Nat) (f : PPort → PPort) : runs (s.onPort n f) = runs s := rfl
@[simp] theorem runs_onTc (n : Nat) (f : TcPort → TcPort) : runs (s.onTc n f) = runs s := rfl
@[simp] theorem runs_onHay (f : Hay → Hay) : runs (s.onHay f) = runs s := rfl
@[simp] theorem runs_onNvm (f : Nvm → Nvm) : runs (s.onNvm f) = runs s := rfl
@[simp] theorem runs_took : runs s.took = runs s := rfl
@[simp] theorem runs_raisePlot (kind addr : Nat) : runs (raisePlot p kind addr s) = runs s := rfl

@[simp] theorem runs_onPlot {f : Plot → Plot} (h : ∀ q, (f q).wc = q.wc) : runs (s.onPlot p f) = runs s := by
  simp [runs, State.onPlot, map_updNth (h := id) h]

@[simp] theorem runs_ite (c : Prop) [Decidable c] (a b : State) :
    runs (if c then a else b) = if c then runs a else runs b := apply_ite runs c a b

theorem runs_forEach {α : Type} {l : List α} {f : α → State → State} (h : ∀ a t, runs (f a t) = runs t) :
    runs (forEach l f s) = runs s :=
  forEach_induction (P := fun t => runs t = runs s) rfl fun a t ht => (h a t).trans ht

/-! ### Ready items and parcels (R293, R438) -/

@[simp] theorem runs_readyItem (kind ref : Nat) : runs (readyItem p kind ref s) = runs s :=
  runs_onPlot fun q => by split <;> rfl

@[simp] theorem runs_readyWork (o : Option Nat) (kind ref : Nat) : runs (readyWork o kind ref s) = runs s := by
  cases o <;> simp [readyWork]

@[simp] theorem runs_readyEp (e : Nat) : runs (readyEp e s) = runs s := by
  unfold readyEp
  split <;> simp

@[simp] theorem runs_passOp (id : Nat) : runs (passOp id s) = runs s := by
  unfold passOp
  dsimp only
  split <;> simp

@[simp] theorem runs_pushIn (e : Nat) (ws : List W) : runs (pushIn e ws s) = runs s := by simp [pushIn]

@[simp] theorem runs_giveParcels (n : Nat) : runs (giveParcels p n s) = runs s := by simp [giveParcels]

@[simp] theorem runs_takeParcels (n : Nat) : runs (takeParcels p n s) = runs s := by
  induction n generalizing s with
  | zero => rfl
  | succ n ih => simp [takeParcels, ih]

@[simp] theorem runs_holdParcels (n : Nat) : runs (holdParcels p n s) = runs s := by simp [holdParcels]

/-! ### Type-C follows its word (R504) -/

@[simp] theorem runs_setPd (k n : Nat) : runs (setPd k n s) = runs s := by simp [setPd]

@[simp] theorem runs_leaveAttached (n : Nat) : runs (leaveAttached n s) = runs s := by
  simp [leaveAttached, tcRequest]

@[simp] theorem runs_tcSync (n : Nat) : runs (tcSync n s) = runs s := by
  simp [tcSync, tcUnattached, enterTc, rpOff]

/-! ### A plot's work in leaving and entering a role changes no working copy (R217, R240) -/

@[simp] theorem runs_applyCad (fresh : Bool) : runs (applyCad p fresh s) = runs s := by simp [applyCad]

@[simp] theorem runs_dropAllBufs : runs (dropAllBufs s) = runs s := rfl

@[simp] theorem runs_applyCulv (changed : Bool) : runs (applyCulv p changed s) = runs s := by
  simp [applyCulv, takeQuiet]

@[simp] theorem runs_readyCulv (c : Nat) : runs (readyCulv c p s) = runs s :=
  runs_forEach fun _ _ => runs_readyItem _ _

@[simp] theorem runs_applyWarden : runs (applyWarden p s) = runs s :=
  runs_forEach fun _ _ => by simp

@[simp] theorem runs_startTand : runs (startTand s) = runs s := rfl

@[simp] theorem runs_readyWaits : runs (readyWaits s) = runs s := runs_forEach fun _ _ => runs_readyEp _

@[simp] theorem runs_leaveRole (m : Store W) : runs (leaveRole p m s) = runs s := by
  have hpass (l : List Item) (u : State) :
      runs (forEach l (fun x s => if x.ref < 0x8000 then passOp x.ref s else s) u) = runs u :=
    runs_forEach fun _ _ => by simp
  have hfix (l : List Nat) (u : State) :
      runs (forEach l (fun e => onBothEps e (fun q => { q with k := 0 })) u) = runs u :=
    runs_forEach fun _ _ => rfl
  simp [leaveRole, hpass, hfix]

@[simp] theorem runs_enterRole (old : Store W) : runs (enterRole p old s) = runs s := by
  simp [enterRole, takeTt]

/-! ### Loading a working copy (R217, R237) -/

/-- A new working copy in Pp, with a change of the configuration. -/
theorem runs_onCfg_onPlot {f : Plot → Plot} {m : Store W} (g : Cfg → Cfg) (h : ∀ q, (f q).wc = m) :
    runs ((s.onPlot p f).onCfg g) = (g (runs s).1, updNth (runs s).2 p (fun _ => m)) :=
  congrArg (Prod.mk (g s.cfg)) (map_updNth (h := fun _ => m) h s.plots p)

/-- Pp runs `m`; every other plot runs what it ran, and the configuration changes in its PEND masks alone. -/
theorem runs_loadPlot (m : Store W) : runs (loadPlot p m s) =
    ({ s.cfg with pend := s.cfg.pend.filter (· ≠ p) }, updNth (s.plots.map Plot.wc) p (fun _ => m)) := by
  have hleft : runs (if cRole (s.plot p).wc p ≠ cRole m p then leaveRole p (s.plot p).wc s else s) = runs s := by simp
  refine (runs_readyWaits.trans (runs_enterRole _)).trans ((runs_onCfg_onPlot (m := m) _ ?_).trans ?_)
  · exact fun _ => rfl
  · rw [hleft]
    rfl

/-! ### Plots that take up their words of the configuration space (R217, R237) -/

theorem cfg_of_runs (h : runs t = runs s) : t.cfg = s.cfg := congrArg Prod.fst h

theorem wcs_of_runs (h : runs t = runs s) : t.plots.map Plot.wc = s.plots.map Plot.wc := congrArg Prod.snd h

theorem wc_plot : (s.plot p).wc = (s.plots.map Plot.wc).getD p [] := (List.getD_map _ _ Plot.wc).symm

theorem wc_plot_of_runs (h : runs t = runs s) : (t.plot p).wc = (s.plot p).wc := by
  rw [wc_plot, wcs_of_runs h, ← wc_plot]

/-- Pp is applied in a joint step: it runs its words of the configuration space, and leaves its pause. -/
def applyPlot (p : Nat) (s : State) : State := (reloadPlot p s).onPlot p (fun q => { q with fenced := false })

/-- From `s`, the configuration has changed in its PEND masks alone, and each plot of `l`, but no other, runs its words
of the configuration space. -/
structure Applies (l : List Nat) (s t : State) : Prop where
  cfg : ∃ pend, t.cfg = { s.cfg with pend := pend }
  length : t.plots.length = s.plots.length
  wc : ∀ j < s.plots.length, (t.plot j).wc = if j ∈ l then extractPlot s.cfg.space j else (s.plot j).wc

theorem Applies.space {l : List Nat} (h : Applies l s t) : t.cfg.space = s.cfg.space := by
  obtain ⟨_, hcfg⟩ := h.cfg
  rw [hcfg]

theorem Applies.cons {l : List Nat} {u : State} (h : Applies [p] s t) (h' : Applies l t u) : Applies (p :: l) s u where
  cfg := by
    obtain ⟨_, hst⟩ := h.cfg
    obtain ⟨pend, htu⟩ := h'.cfg
    exact ⟨pend, by rw [htu, hst]⟩
  length := h'.length.trans h.length
  wc j hj := by
    rw [h'.wc j (h.length ▸ hj), h.wc j hj, h.space]
    by_cases hl : j ∈ l
    · simp [hl]
    · simp [hl]

/-- Two states that read the same here have the same plots applied. -/
theorem Applies.of_runs {l : List Nat} {u : State} (h : Applies l s t) (hu : runs u = runs t) : Applies l s u := by
  obtain ⟨hcfg, hwcs⟩ := Prod.mk.inj hu
  have hlen : u.plots.length = t.plots.length := by simpa using congrArg List.length hwcs
  exact ⟨hcfg ▸ h.cfg, hlen.trans h.length, fun j hj => by rw [wc_plot, hwcs, ← wc_plot, h.wc j hj]⟩

theorem applies_loadPlot : Applies [p] s (loadPlot p (extractPlot s.cfg.space p) s) := by
  obtain ⟨hcfg, hwcs⟩ := Prod.mk.inj (runs_loadPlot (s := s) (p := p) (extractPlot s.cfg.space p))
  refine ⟨?_, ?_, fun j hj => ?_⟩
  · exact ⟨_, hcfg⟩
  · simpa using congrArg List.length hwcs
  · rw [wc_plot, hwcs, getD_updNth, ← wc_plot]
    by_cases h : j = p
    · simp [h, h ▸ hj]
    · simp [h, Ne.symm h]

/-- A plot that runs its words of the configuration space already keeps them. -/
theorem applies_of_unchanged (h : changedPlot s p = false) : Applies [p] s s where
  cfg := ⟨_, rfl⟩
  length := rfl
  wc j _ := by
    have hwc : (s.plot p).wc = extractPlot s.cfg.space p := by simpa [changedPlot] using h
    by_cases hj : j = p
    · simp [hj, hwc]
    · simp [hj]

theorem applies_applyPlot : Applies [p] s (applyPlot p s) := by
  refine Applies.of_runs (t := reloadPlot p s) ?_ (runs_onPlot fun _ => rfl)
  unfold reloadPlot
  split
  next => exact applies_loadPlot
  next h => exact applies_of_unchanged (eq_false_of_ne_true h)

theorem applies_forEach (l : List Nat) : Applies l s (forEach l applyPlot s) := by
  induction l generalizing s with
  | nil => exact ⟨⟨_, rfl⟩, rfl, fun _ _ => rfl⟩
  | cons p l ih => exact applies_applyPlot.cons ih

/-! ### A joint step (R217, R237) -/

@[simp] theorem runs_writeMsg (kept : Bool) (w : W) : runs (writeMsg kept w s) = runs s := by simp [writeMsg]

@[simp] theorem runs_applyMode : runs (applyMode s) = runs s := by simp [applyMode]

@[simp] theorem runs_repause : runs (repause s) = runs s := runs_forEach fun _ _ => runs_onPlot fun _ => rfl

/-- What a joint step applies before its plots: one epoch step where it makes one, the device-scope words, and MODE. -/
def deviceApplied (st : CommitStep) (s : State) : State := applyMode (loadDevice (if st.makes then stepEpoch s else s))

/-- The configuration then. -/
def deviceCfg (st : CommitStep) (c : Cfg) : Cfg :=
  { c with
    epoch := c.epoch + (if st.makes then 1 else 0)
    devScope := extractDevice c.space
    hwTable := sliceStore c.space 0x50000 0x50400
    route := sliceStore c.space 0x70000 0x70040
    routeOn := true }

theorem runs_deviceApplied (st : CommitStep) : runs (deviceApplied st s) = (deviceCfg st s.cfg, s.plots.map Plot.wc) := by
  rw [deviceApplied, runs_applyMode]
  cases hm : st.makes
  · simp [runs, loadDevice, deviceCfg, hm]
  · simp [runs, loadDevice, stepEpoch, deviceCfg, hm]

theorem applyStep_eq (st : CommitStep) : applyStep st s =
    repause ((forEach st.plots applyPlot (deviceApplied st s)).onCfg (fun c =>
      { c with step := none, pend := c.pend.filter (fun p => !st.plots.contains p) })) := rfl

theorem cfg_applyStep (st : CommitStep) : ∃ pend,
    (applyStep st s).cfg = { deviceCfg st s.cfg with pend := pend, step := none } := by
  obtain ⟨hdev, _⟩ := Prod.mk.inj (runs_deviceApplied (s := s) st)
  obtain ⟨pend, happ⟩ := (applies_forEach (s := deviceApplied st s) st.plots).cfg
  refine ⟨pend.filter (fun p => !st.plots.contains p), ?_⟩
  rw [applyStep_eq, cfg_of_runs runs_repause, State.onCfg_cfg, happ, hdev]

/-- The plots of a joint step run their words of the configuration space, and the others what they ran. -/
theorem wc_plot_applyStep (st : CommitStep) (hj : j < s.plots.length) : ((applyStep st s).plot j).wc =
    if j ∈ st.plots then extractPlot s.cfg.space j else (s.plot j).wc := by
  obtain ⟨hcfg, hdev⟩ := Prod.mk.inj (runs_deviceApplied (s := s) st)
  have hlen : (deviceApplied st s).plots.length = s.plots.length := by simpa using congrArg List.length hdev
  have happ := (applies_forEach (s := deviceApplied st s) st.plots).wc j (hlen ▸ hj)
  rw [applyStep_eq, wc_plot_of_runs runs_repause]
  refine happ.trans ?_
  rw [hcfg, wc_plot, hdev, ← wc_plot]
  rfl

/-! ### The pause of a fence, and its end (R245, R246) -/

theorem pausePlots_frame (l : List Nat) : ∃ plots, pausePlots l s = { s with plots := plots } := by
  refine forEach_induction (P := fun t => ∃ plots, t = { s with plots := plots }) ⟨_, rfl⟩ ?_
  rintro p _ ⟨plots, rfl⟩
  exact ⟨_, rfl⟩

/-- Each plot of the list pauses with FENCED set, and no other plot changes. -/
theorem plot_pausePlots (l : List Nat) (hj : j < s.plots.length) : (pausePlots l s).plot j =
    if j ∈ l then { s.plot j with fenced := true } else s.plot j := by
  induction l generalizing s with
  | nil => rfl
  | cons p l ih =>
    have hstep : pausePlots (p :: l) s = pausePlots l (s.onPlot p (fun q => { q with fenced := true })) := rfl
    rw [hstep, ih (by simpa using hj)]
    by_cases h : j = p
    · subst h
      simp [plot_onPlot_self _ _ _ hj]
    · simp [plot_onPlot_ne _ _ h, h]

/-- Every plot leaves its pause. -/
def leavePause (s : State) : State := s.onPlots (fun l => l.map (fun q => { q with fenced := false }))

theorem plot_leavePause : (leavePause s).plot j = { s.plot j with fenced := false } := by
  have hmap := List.getD_map (n := j) s.plots (Plot.reset j) (fun q => { q with fenced := false })
  exact hmap

/-- An OPEN that waits changes nothing but the open window and the pass under way. -/
theorem settleOpen_frame : ∃ openWait isOpen window winRun pass, settleOpen s = { s with cfg := { s.cfg with
    openWait := openWait, isOpen := isOpen, window := window, winRun := winRun, pass := pass } } := by
  unfold settleOpen
  split
  · exact ⟨_, _, _, _, _, rfl⟩
  · exact ⟨_, _, _, _, _, rfl⟩

theorem settleOpen_of_no_wait (h : s.cfg.openWait = false) : settleOpen s = s := by simp [settleOpen, h]

/-- The fence is applied: every plot leaves its pause, and a waiting OPEN may take place. -/
def endPause (s : State) : State := settleOpen (fenceDone (leavePause s))

theorem endPause_of_no_wait (h : s.cfg.openWait = false) : endPause s = fenceDone (leavePause s) :=
  settleOpen_of_no_wait h

theorem cfg_endPause : ∃ openWait isOpen window winRun pass, (endPause s).cfg = { s.cfg with
    openWait := openWait, isOpen := isOpen, window := window, winRun := winRun, pass := pass
    fApplied := true, fenceList := [], fPending := false, fForCommit := false, fAccepted := false, fPaused := false } := by
  obtain ⟨openWait, isOpen, window, winRun, pass, hsettle⟩ := settleOpen_frame (s := fenceDone (leavePause s))
  exact ⟨openWait, isOpen, window, winRun, pass, congrArg State.cfg hsettle⟩

theorem plot_endPause : (endPause s).plot j = { s.plot j with fenced := false } := by
  obtain ⟨_, _, _, _, _, hsettle⟩ := settleOpen_frame (s := fenceDone (leavePause s))
  rw [endPause, hsettle]
  exact plot_leavePause

theorem wc_plot_endPause : ((endPause s).plot j).wc = (s.plot j).wc := by
  rw [plot_endPause]

theorem fenced_plot_endPause : ((endPause s).plot j).fenced = false := by
  rw [plot_endPause]

theorem exec_fencePause (hp : s.cfg.fPending = true) (hc : s.cfg.fForCommit = false) (hn : s.cfg.fPaused = false)
    (hat : s.cfg.fAt < s.tick.now) : exec .fencePause s =
      .next ((pausePlots s.cfg.fenceList s).onCfg (fun c => { c with fPaused := true, fAt := s.tick.now })) :=
  goOn_onlyIf_of (by simp [hp, hc, hn, hat])

section
variable (hpaused : s.cfg.fPaused = true) (hat : s.cfg.fAt < s.tick.now)
include hpaused hat

theorem exec_fenceApply_of_no_step (hstep : s.cfg.step = none) :
    exec .fenceApply s = .next (endPause s) := by
  change execFenceApply s = _
  simp [execFenceApply, hpaused, hat, hstep, endPause, leavePause]

theorem exec_fenceApply_of_step {st : CommitStep} (hstep : s.cfg.step = some st) (hk : st.kind = .fence) :
    exec .fenceApply s = .next (endPause (applyStep st s)) := by
  change execFenceApply s = _
  simp [execFenceApply, hpaused, hat, hstep, hk, endPause, leavePause]

end

/-! ### The open window expires (R231, R250) -/

theorem exec_cfgWindowExpire (ho : s.cfg.isOpen = true) (hc : s.cfg.checking = false) (hw : 4096 ≤ s.cfg.window) :
    exec .cfgWindowExpire s = .next (raise ⟨0x61, 0x05, 1⟩ (
      let closed := closeCfg (s.onCfg (fun c => { c with expired := true }))
      if s.cfg.fPending then endFence closed else closed)) :=
  goOn_onlyIf_of (by simp [ho, hc, hw])

end

/-- Settles O26: each row is the equation of its situation. A fence with a commit is the joint step, after which each of
its plots runs its words of the configuration space, and then the end of the pause. -/
theorem fencesAndWindow : Obligations.FencesAndWindow := by
  unfold Obligations.FencesAndWindow
  refine ⟨fun s h63 => ⟨?pause, ?free, ?commit⟩, ?window⟩
  case pause =>
    intro hp hc hn hat
    obtain ⟨plots, hpause⟩ := pausePlots_frame (s := s) s.cfg.fenceList
    refine ⟨_, exec_fencePause hp hc hn hat, ?_, fun p hlt => plot_pausePlots _ (h63 ▸ hlt), ?_⟩
    · rw [hpause]
      rfl
    · rw [hpause]
      rfl
  case free =>
    intro hpaused hat hstep hwait
    have hrun := exec_fenceApply_of_no_step hpaused hat hstep
    rw [endPause_of_no_wait hwait] at hrun
    exact ⟨_, hrun, rfl, fun p _ => plot_leavePause, rfl⟩
  case commit =>
    intro st hpaused hat hstep hk
    obtain ⟨_, hcfg⟩ := cfg_applyStep (s := s) st
    obtain ⟨_, _, _, _, _, hend⟩ := cfg_endPause (s := applyStep st s)
    refine ⟨_, exec_fenceApply_of_step hpaused hat hstep hk, ?_, ?_, ?_, ?_, ?_, fun p hp hlt => ?_⟩
    · rw [hend]
    · rw [hend]
    · rw [hend]
    · rw [hend, hcfg]
    · rw [hend, hcfg]
      rfl
    · have hwc := wc_plot_applyStep (s := s) (j := p) st (by omega)
      rw [if_pos hp] at hwc
      exact ⟨wc_plot_endPause.trans hwc, fenced_plot_endPause⟩
  case window =>
    intro s ho hc hw
    rw [exec_cfgWindowExpire ho hc hw]
    cases hp : s.cfg.fPending
    · rfl
    · rfl

end Sys2Proof.Machine

/-!
PROOFS. The rows of the port command word and the counter clears (R64, R172, R173, R300, R467, R468, R480 to R482, R491,
R496, R508): what a row of an indirect word does while another word waits, the gate and the effect of the words these rows
write, and the equation of each action of the port command word; O57 follows.
-/

namespace Sys2Proof.Machine

section
variable {s : State} {path : Path} {n a k : Nat} {v : W}

/-! ### A row of an indirect word while a word waits in the path's write buffer (R172, R173) -/

theorem rowInd_tally_of_waiting (h : mayAccess .tally s = true) (hw : s.tWin.wbuf.isSome = true) :
    rowInd .tally a v s =
      { shown .tally s with tally := { (shown .tally s).tally with last := .notReady, notReady := true } } := by
  have hw' : (shown .tally s).tWin.wbuf.isSome = true := hw
  simp [rowInd, mayAccess_clocked h, tallyFall_eq (mayAccess_phase h), hw', finishTally, State.onTally]

theorem rowInd_usb_of_waiting (h : mayAccess .usb s = true) (hw : s.uWin.wbuf.isSome = true) :
    rowInd .usb a v s = { shown .usb s with usb := { (shown .usb s).usb with resp := ⟨.nak, [], []⟩ } } := by
  have hw' : (shown .usb s).uWin.wbuf.isSome = true := hw
  simp only [rowInd, vendor_of h, hw', if_true]
  rfl

/-! ### The words these rows write are always writable (R62, R174, R496) -/

/-- USB_MODE does not turn away a path that may access. -/
theorem usbMode_of_mayAccess (h : mayAccess path s = true) :
    (decide (path = .usb) && decide ((shown path s).usb.mode ≠ 2)) = false := by
  cases path with
  | tally => rfl
  | usb =>
    obtain ⟨-, -, -, hmode⟩ := mayAccess_usb h
    simp [shown, hmode]

/-- The words of a port's block from 64 on are not of its configuration. -/
theorem openRegion_portWord (hn : n < 16) (hk : 64 ≤ k) (hk' : k < 256) :
    openRegion (0x20000 + 256 * n + k) = false := by
  simp [openRegion]; omega

theorem openRegion_plotStatus (hn : n < 63) : openRegion (0x8103 + 4 * n) = false := by
  simp [openRegion]; omega

/-- The configuration space lies in the regions that only an open configuration writes. -/
theorem covered_of_not_openRegion (h : openRegion a = false) : covered a = false := by
  simp only [openRegion, Bool.or_eq_false_iff, Bool.and_eq_false_iff, decide_eq_false_iff_not] at h
  simp only [covered, coveredRanges, List.any_eq_false, List.mem_append, List.mem_cons, List.not_mem_nil, or_false,
    List.mem_map, List.mem_range, Bool.and_eq_true, decide_eq_true_eq]
  rintro _ ((((rfl | rfl) | ⟨m, hm, rfl⟩) | ⟨m, hm, rfl⟩) | rfl | rfl)
  all_goals dsimp only; omega

theorem indGate_portWord (h : mayAccess path s = true) (hn : n < 16) (hk : 64 ≤ k) (hk' : k < 256) :
    indGate (shown path s) path (0x20000 + 256 * n + k) = .ok := by
  have hmapped : mapped (0x20000 + 256 * n + k) = true := by simp [mapped]; omega
  simp only [indGate, usbMode_of_mayAccess h, hmapped, openRegion_portWord hn hk hk', inCommons, Bool.not_true,
    Bool.false_eq_true, if_false, Bool.and_eq_true, Bool.or_eq_true, decide_eq_true_eq]
  rw [if_neg (by omega), if_neg (by omega), if_neg (by omega), if_neg (by omega)]

/-- Word 3 of a plot's status is the only one of the four that is written. -/
theorem indGate_plotStatus (h : mayAccess path s = true) (hn : n < 63) :
    indGate (shown path s) path (0x8103 + 4 * n) = .ok := by
  have hmapped : mapped (0x8103 + 4 * n) = true := by simp [mapped]; omega
  simp only [indGate, usbMode_of_mayAccess h, hmapped, openRegion_plotStatus hn, Bool.not_true, Bool.false_eq_true, if_false,
    Bool.and_eq_true, decide_eq_true_eq]
  rw [if_pos (by omega), if_pos (by omega)]

/-! ### What the words do (R64, R300, R496) -/

/-- What an accepted write does to word k of the block of port n, outside its configuration. -/
def portWordEffect (n k : Nat) (v : W) (s : State) : State :=
  match k with
  | 64 => portCommand n v s
  | 66 => s.onPort n (fun p => { p with evt := p.evt &&& ~~~(v.setWidth 8) })
  | 196 => if v.bit 31 then clearUsbCounters n s else s
  | _ => s

theorem indEffect_portWord (hn : n < 16) (hk : 64 ≤ k) (hk' : k < 256) :
    indEffect (0x20000 + 256 * n + k) v s = portWordEffect n k v s := by
  have hport : (0x20000 + 256 * n + k - 0x20000) / 256 = n := by omega
  have hword : (0x20000 + 256 * n + k) % 256 = k := by omega
  simp only [indEffect, covered_of_not_openRegion (openRegion_portWord hn hk hk'), hport, hword, Bool.false_eq_true,
    if_false, Bool.and_eq_true, decide_eq_true_eq]
  rw [if_neg (by omega), if_pos (by omega)]
  rfl

theorem indEffect_plotStatus (hn : n < 63) (hv : v.bit 31 = true) :
    indEffect (0x8103 + 4 * n) v s = clearPlotStatus n s := by
  have hplot : (0x8103 + 4 * n - 0x8100) / 4 = n := by omega
  simp only [indEffect, covered_of_not_openRegion (openRegion_plotStatus hn), hplot, hv, Bool.false_eq_true, if_false,
    if_true, Bool.and_eq_true, decide_eq_true_eq]
  rw [if_pos (by omega)]

/-! ### The rows with no word waiting -/

/-- A row of the port command word does the word's actions. -/
theorem rowInd_portCmd {port : PortId} (h : mayAccess path s = true) (hw : (s.win path).wbuf = none) :
    rowInd path (portCmdAddr port) v s = accessed path (portCommand port.val v) s :=
  (rowInd_ok h hw (indGate_portWord h port.isLt (Nat.le_refl 64) (by decide))).trans
    (accessed_congr (indEffect_portWord port.isLt (Nat.le_refl 64) (by decide)))

theorem rowInd_usbCounters {port : PortId} (h : mayAccess path s = true) (hw : (s.win path).wbuf = none) :
    rowInd path (0x20000 + 256 * port.val + 196) 0x80000000 s = accessed path (clearUsbCounters port.val) s :=
  (rowInd_ok h hw (indGate_portWord h port.isLt (by decide) (by decide))).trans
    (accessed_congr (indEffect_portWord port.isLt (by decide) (by decide)))

theorem rowInd_plotStatus {p : PlotId} (h : mayAccess path s = true) (hw : (s.win path).wbuf = none) :
    rowInd path (0x8103 + 4 * p.val) 0x80000000 s = accessed path (clearPlotStatus p.val) s :=
  (rowInd_ok h hw (indGate_plotStatus h p.isLt)).trans (accessed_congr (indEffect_plotStatus p.isLt rfl))

/-! ### A bit of the port command word performs its action alone (R496) -/

theorem portCommand_on : portCommand n 0x01 s = requestPort true n s := rfl
theorem portCommand_off : portCommand n 0x02 s = requestPort false n s := rfl
theorem portCommand_forceSet :
    portCommand n 0x04 s = s.onPort n (fun p => { p with forceOff := true, reqs := p.reqs ++ [false] }) := rfl
theorem portCommand_forceClr : portCommand n 0x08 s = s.onPort n (fun p => { p with forceOff := false }) := rfl
theorem portCommand_latchClr : portCommand n 0x10 s = clearLatch n s := rfl
theorem portCommand_railHv : portCommand n 0x20 s = railHigh n s := rfl
theorem portCommand_rail5v : portCommand n 0x40 s = railLow n s := rfl

/-! ### The actions (R467, R468, R480 to R482, R491, R508) -/

/-- A request is the port's, and on an enabled Type-C port WANT as well. -/
theorem requestPort_eq (on : Bool) : requestPort on n s =
    if 12 ≤ n ∧ tcEn s (n - 12) = true then
      (s.onPort n (fun p => { p with reqs := p.reqs ++ [on] })).onTc (n - 12) (fun x => { x with want := on })
    else s.onPort n (fun p => { p with reqs := p.reqs ++ [on] }) := by
  simp only [requestPort, Bool.and_eq_true, decide_eq_true_eq]

/-- Changes that agree on the element at the index leave the same list. -/
theorem updNth_congr {α : Type} {f g : α → α} {d : α} (l : List α) (i : Nat) (h : f (l.getD i d) = g (l.getD i d)) :
    updNth l i f = updNth l i g := by
  induction l generalizing i with
  | nil => rfl
  | cons x l ih =>
    cases i with
    | zero => exact congrArg (· :: l) h
    | succ i => exact congrArg (x :: ·) (ih i h)

/-- Changes that agree on the port leave the same state. -/
theorem onPort_congr {f g : PPort → PPort} (h : f (s.port n) = g (s.port n)) : s.onPort n f = s.onPort n g :=
  congrArg (fun l => { s with ports := l }) (updNth_congr s.ports n h)

theorem onPort_id : s.onPort n id = s := congrArg (fun l => { s with ports := l }) (updNth_id s.ports n)

theorem clearLatch_of_free (hc : (s.port n).classifying = false)
    (hs : ¬((s.port n).latch = .safe ∧ (s.port n).safe = true)) : clearLatch n s =
      s.onPort n (fun p => { p with latch := .none, vOpen := false, iOpen := false, post := [] }) := by
  apply onPort_congr
  rw [if_neg (by simpa [hc] using hs)]
  simp [hc]

theorem clearLatch_of_refused (h : (s.port n).classifying = true ∨ (s.port n).latch = .safe ∧ (s.port n).safe = true) :
    clearLatch n s = s :=
  calc clearLatch n s = s.onPort n id := onPort_congr (if_pos (by simpa using h))
    _ = s := onPort_id

theorem railHigh_of_accepted (hn : 12 ≤ n) (hv : pHvAllow s n = true) (hon : (s.port n).st = .on)
    (hsink : (s.tc (n - 12)).st = .attached) : railHigh n s =
      s.onPort n (fun p => { p with railBusy := some (true, s.tick.now + 1 + pRailSettle s n) }) :=
  if_pos (by simp [hn, hv, hon, hsink])

theorem railHigh_of_refused (h : n < 12 ∨ pHvAllow s n = false ∨ (s.port n).st ≠ .on ∨ (s.tc (n - 12)).st ≠ .attached) :
    railHigh n s = s := by
  apply if_neg
  simp only [Bool.and_eq_true, decide_eq_true_eq]
  rintro ⟨⟨⟨hn, hv⟩, hon⟩, hsink⟩
  rcases h with h | h | h | h
  · omega
  · simp [hv] at h
  · exact h hon
  · exact h hsink

theorem railLow_of_typeC (hn : 12 ≤ n) : railLow n s =
    s.onPort n (fun p => { p with railBusy := some (false, s.tick.now + 1 + pRailSettle s n) }) :=
  if_pos hn

theorem railLow_of_plain (hn : n < 12) : railLow n s = s := if_neg (Nat.not_le.mpr hn)

/-! ### Each of the rows is a row of one indirect word -/

/-- The rows of the port command word of a port, and the two counter clears. -/
def portRows (path : Path) (port : PortId) (p : PlotId) : List Instr :=
  [.portCmdOn path port, .portCmdOff path port, .forceSet path port, .forceClr path port, .latchClr path port,
    .railHv path port, .rail5v path port, .portUsbCountersClr path port, .plotStatusClr path p]

theorem exec_portRow {port : PortId} {p : PlotId} {c : Instr} (hc : c ∈ portRows path port p) :
    ∃ a v, exec c s = .next (rowInd path a v s) := by
  simp only [portRows, List.mem_cons, List.not_mem_nil, or_false] at hc
  rcases hc with rfl | rfl | rfl | rfl | rfl | rfl | rfl | rfl | rfl
  all_goals exact ⟨_, _, rfl⟩

/-- A row of the port command word with no word waiting, by what the word does to the state it acts on. -/
theorem exec_of_portCmd {port : PortId} {c : Instr} {f : State → State}
    (h : mayAccess path s = true) (hw : (s.win path).wbuf = none)
    (hrow : exec c s = .next (rowInd path (portCmdAddr port) v s))
    (hf : portCommand port.val v (shown path s) = f (shown path s)) : exec c s = .next (accessed path f s) := by
  rw [hrow, rowInd_portCmd h hw, accessed_congr hf]

/-! ### What the actions look at is the same in the state a write acts on -/

theorem port_shown : (shown path s).port n = s.port n := by cases path <;> rfl
theorem tc_shown : (shown path s).tc n = s.tc n := by cases path <;> rfl
theorem pHvAllow_shown : pHvAllow (shown path s) n = pHvAllow s n := by cases path <;> rfl

end

/-- Settles O57: with no word waiting, each row is the effect of its word, and the word's bit is one action; with a word
waiting, none of the rows reaches its word. -/
theorem portCommands : Obligations.PortCommands := by
  unfold Obligations.PortCommands
  refine ⟨fun path port p s h hw => ?free, fun path port p s h hw c hc => ?waiting⟩
  case free =>
    refine ⟨?on, ?off, ?forceSet, ?forceClr, ?latchClr, ?latchHeld, ?railHv, ?railHvRefused, ?rail5v, ?rail5vPlain, ?usbClr,
      ?plotClr⟩
    case on => exact exec_of_portCmd h hw rfl (portCommand_on.trans (requestPort_eq true))
    case off => exact exec_of_portCmd h hw rfl (portCommand_off.trans (requestPort_eq false))
    case forceSet => exact exec_of_portCmd h hw rfl portCommand_forceSet
    case forceClr => exact exec_of_portCmd h hw rfl portCommand_forceClr
    case latchClr =>
      intro hc hs
      rw [← port_shown (path := path)] at hc hs
      exact exec_of_portCmd h hw rfl (portCommand_latchClr.trans (clearLatch_of_free hc hs))
    case latchHeld =>
      intro hr
      rw [← port_shown (path := path)] at hr
      exact exec_of_portCmd h hw rfl (portCommand_latchClr.trans (clearLatch_of_refused hr))
    case railHv =>
      intro hn hv hon hsink
      rw [← pHvAllow_shown (path := path)] at hv
      rw [← port_shown (path := path)] at hon
      rw [← tc_shown (path := path)] at hsink
      exact exec_of_portCmd h hw rfl (portCommand_railHv.trans (railHigh_of_accepted hn hv hon hsink))
    case railHvRefused =>
      intro hr
      rw [← pHvAllow_shown (path := path), ← port_shown (path := path), ← tc_shown (path := path)] at hr
      exact exec_of_portCmd h hw rfl (portCommand_railHv.trans (railHigh_of_refused hr))
    case rail5v =>
      intro hn
      exact exec_of_portCmd h hw rfl (portCommand_rail5v.trans (railLow_of_typeC hn))
    case rail5vPlain =>
      intro hn
      exact exec_of_portCmd h hw rfl (portCommand_rail5v.trans (railLow_of_plain hn))
    case usbClr => exact congrArg Host.Outcome.next (rowInd_usbCounters h hw)
    case plotClr => exact congrArg Host.Outcome.next (rowInd_plotStatus h hw)
  case waiting =>
    obtain ⟨a, v, hrow⟩ := exec_portRow (s := s) hc
    rw [hrow]
    cases path with
    | tally => exact congrArg Host.Outcome.next (rowInd_tally_of_waiting h hw)
    | usb => exact congrArg Host.Outcome.next (rowInd_usb_of_waiting h hw)

end Sys2Proof.Machine

/-!
PROOFS. The field fuse (R185, R603, R604): the fields of the words that FUSE_ARM and FUSE_BLOW write, what an ARM and a
BLOW do, a write over USB that the register's gate denies, and the end of the blow pulse; O36 follows.
-/

namespace Sys2Proof.Machine

section
variable {s : State} {cmd idx : Nat} {key : BitVec 16} {v : W}

/-! ### The word of a keyed command -/

/-- The word the fuse rows write: CMD and KEY. -/
def fuseWord (cmd : Nat) (key : BitVec 16) : W := mkW [(0, 4, cmd), (16, 16, key.toNat)]

theorem toNat_fuseWord (h : cmd < 16) : (fuseWord cmd key).toNat = cmd + key.toNat * 65536 := by
  have hkey := key.isLt
  simp only [fuseWord, mkW, List.foldl_cons, List.foldl_nil, BitVec.toNat_ofNat]
  omega

theorem fuseWord_cmd (h : cmd < 16) : (fuseWord cmd key).bits 3 0 = cmd := by
  rw [W.bits, toNat_fuseWord h]
  omega

theorem fuseWord_key (h : cmd < 16) : (fuseWord cmd key).bits 31 16 = key.toNat := by
  have hkey := key.isLt
  rw [W.bits, toNat_fuseWord h, Nat.shiftRight_eq_div_pow]
  omega

/-! ### ARM and BLOW (R603) -/

/-- No pulse is under way, the fuse is whole, and the device is in a state where the fuse may be blown (R603). -/
def fuseReady (s : State) : Bool :=
  !s.nvm.fBusy && !s.nvm.fBlown && (s.pwr.phase = .startup || s.pwr.phase = .quiesce)

/-- A FUSE_CTL write that R603 refuses: REFUSED, and nothing else changed. -/
def refuseFuse (s : State) : State := s.onNvm (fun n => { n with fRefused := true })

/-- ARMED is set, from now on (R603). -/
def armFuse (s : State) : State := s.onNvm (fun n => { n with fArmed := true, fArmedAt := s.tick.now })

/-- The blow pulse begins (R603). -/
def blowFuse (s : State) : State := s.onNvm (fun n => { n with fBusy := true })

/-- A FUSE_CTL write that names ARM or BLOW acts where its key is right, a BLOW finds the fuse armed, and the fuse is
ready; otherwise it is refused. -/
theorem writeFuseCtl_fuseWord (hcmd : cmd = 1 ∨ cmd = 2) : writeFuseCtl (fuseWord cmd key) s =
    if key.toNat = (if cmd = 1 then 0xC105 else 0xB10E) ∧ (cmd = 2 → s.nvm.fArmed = true) ∧ fuseReady s = true then
      if cmd = 1 then armFuse s else blowFuse s
    else refuseFuse s := by
  rw [writeFuseCtl, fuseWord_cmd (by omega), fuseWord_key (by omega)]
  refine (if_neg ?named).trans ((if_congr ?test rfl rfl).trans (ite_not _ _ _))
  case named =>
    rw [Bool.or_eq_true, decide_eq_true_eq, decide_eq_true_eq]
    omega
  case test =>
    simp only [fuseReady, Bool.or_eq_true, Bool.and_eq_true, Bool.not_eq_true', decide_eq_true_eq,
      ← Bool.not_eq_true]
    tauto

theorem writeFuseCtl_arm :
    writeFuseCtl (fuseWord 1 key) s = if key = 0xC105 ∧ fuseReady s = true then armFuse s else refuseFuse s := by
  have hkey : key.toNat = 0xC105 ↔ key = 0xC105 := BitVec.toNat_inj (y := 0xC105#16)
  simp [writeFuseCtl_fuseWord, hkey]

theorem writeFuseCtl_blow : writeFuseCtl (fuseWord 2 key) s =
    if key = 0xB10E ∧ s.nvm.fArmed = true ∧ fuseReady s = true then blowFuse s else refuseFuse s := by
  have hkey : key.toNat = 0xB10E ↔ key = 0xB10E := BitVec.toNat_inj (y := 0xB10E#16)
  simp [writeFuseCtl_fuseWord, hkey]

theorem rowWrite_fuseCtl_tally (h : mayAccess .tally s = true) :
    rowWrite .tally 0x30 v s = accessed .tally (writeFuseCtl v) s :=
  rowWrite_ok h (by decide) (fun hreset => absurd hreset.2.1 (by decide)) rfl rfl

/-! ### A write over USB that the register's gate denies (R153, R185, R638) -/

theorem endWrite_denied (s0 : State) : endWrite s0 .denied s =
    { s with usb := { s.usb with last := .denied, denied := true, active := false, resp := ⟨.stall, [], []⟩ } } := by
  simp [endWrite, refusing, stall, answer, finishUsb, State.onUsb]

theorem rowWrite_usb_denied (h : mayAccess .usb s = true) (hiwd : idx ≠ 5)
    (hmapped : (directValue (shown .usb s) .usb idx).isNone = false)
    (hgate : regGate (shown .usb s) .usb idx v = .denied) :
    rowWrite .usb idx v s = turnedAway .usb .denied s := by
  have hwrite : regWrite .usb idx v (shown .usb s) = (.denied, shown .usb s) := by
    simp [regWrite, hmapped, hiwd, hgate]
  simp only [rowWrite, vendor_of h, usbWriteReg, if_neg hiwd, hwrite, reduceCtorEq, if_false, endWrite_denied]
  simp [turnedAway]

/-- FUSE_CTL is written from the tally port only (R185). -/
theorem rowWrite_fuseCtl_usb (h : mayAccess .usb s = true) : rowWrite .usb 0x30 v s = turnedAway .usb .denied s :=
  rowWrite_usb_denied h (by decide) rfl (by simp [regGate, roRegister])

/-! ### The end of the pulse (R603 to R605) -/

/-- A device that runs is not held in reset by a pulse. -/
theorem pulseEnded_of_clocked (h : clocked s = true) : pulseEnded s = s := by
  refine if_neg fun hheld => ?_
  rw [Bool.or_eq_true, decide_eq_true_eq, decide_eq_true_eq] at hheld
  obtain hp | hp := hheld <;> simp [clocked, hp] at h

/-- The end of the pulse in a device that runs: the factory access closes where the fuse is blown (R604). -/
theorem exec_fuseBlowDone (blown : Bool) (hbusy : s.nvm.fBusy = true) (hc : clocked s = true) :
    exec (.fuseBlowDone blown) s = .next { s with
      nvm := { s.nvm with
        fBusy := false, fArmed := false, fCut := false, fBlown := s.nvm.fBlown || blown, fFail := s.nvm.fFail || !blown }
      pwr := { s.pwr with factory := s.pwr.factory && !blown } } := by
  refine (goOn_onlyIf_of hbusy).trans (congrArg Host.Outcome.next ?_)
  dsimp only
  rw [pulseEnded_of_clocked (by cases blown <;> exact hc)]
  cases blown
  case true => simp [State.onNvm, State.onPwr]
  case false => simp [State.onNvm, hc]

end

/-- Settles O36: on the tally port each row is the effect of its word, over USB the register's gate denies it, and the
pulse ends in a device that runs. -/
theorem fuseRows : Obligations.FuseRows := by
  unfold Obligations.FuseRows
  refine ⟨fun key s h => ⟨?arm, ?blow, fun hu => ⟨?armUsb, ?blowUsb⟩⟩, fun s => ⟨?expire, fun hbusy hc => ?pulse⟩⟩
  case arm =>
    exact congrArg Host.Outcome.next ((rowWrite_fuseCtl_tally h).trans (accessed_congr writeFuseCtl_arm))
  case blow =>
    exact congrArg Host.Outcome.next ((rowWrite_fuseCtl_tally h).trans (accessed_congr writeFuseCtl_blow))
  case armUsb => exact congrArg Host.Outcome.next (rowWrite_fuseCtl_usb hu)
  case blowUsb => exact congrArg Host.Outcome.next (rowWrite_fuseCtl_usb hu)
  case expire =>
    intro harmed hbusy hlate
    exact goOn_onlyIf_of (by simp [harmed, hbusy, hlate])
  case pulse => exact ⟨by simp [exec_fuseBlowDone, hbusy, hc], by simp [exec_fuseBlowDone, hbusy, hc]⟩

end Sys2Proof.Machine
